-- ==== Sys2Proof/Word.lean ====
section
/-! DEFINITION. The plainest types of the GC412 model: a byte, an image bank, and splitting a number into bytes. -/

namespace Sys2Proof

/-- A byte of a frame, of an image page or of the cab link. -/
abbrev Byte := BitVec 8

/-- An image bank (R160): the 2,560 bytes of 20 pages of 128, byte `o` of page `p` at address `128 p + o`,
held as the list of the bytes that differ from the default image (R169), in rising address order. -/
abbrev Bank := List Host.Cell

/-- The byte of a number: its value modulo 256. -/
def byte (n : Nat) : Byte := BitVec.ofNat 8 n

/-- The 16-bit code of a signed number (two's complement, chapter 12). -/
def code16 (x : Int) : Nat := (x % 65536).toNat

/-- The low and the high byte of a 16-bit field, least significant first (chapter 12). -/
def bytes16 (n : Nat) : List Byte := [byte (n % 256), byte (n / 256 % 256)]

/-- Four bytes, least significant first (chapter 12). -/
def bytes32 (n : Nat) : List Byte := bytes16 (n % 65536) ++ bytes16 (n / 65536 % 65536)

end Sys2Proof
end

