-- ==== Sys2Proof/Config.lean ====
section
/-! DEFINITION. The free values of the model: values the spec leaves open although the part goes on.
Each is opaque: nothing can be proved about which value it is. -/

namespace Sys2Proof.Config

/-- Whether the store word of a PROTECT or UNPROTECT holds the new set when a start cuts off its write: "finds
either the old set or the new one" (section 9.5). The argument is the model's count of such cuts. -/
opaque storeWordWritten : Nat → Bool

/-- The 16 bits that READ_EVENTS part 1 reports for a latch parameter above 65,535 (an EXTENDED identifier latched by
RX_OVERFLOW, R4): R185 gives the field two bytes and states no value for a longer parameter. -/
opaque wideParameter : Nat → BitVec 16

/-- The level of the shed order of R106 for a blower whose rated current is 0 in the image while an older commitment of
it is still counted (R110): the rule divides by that rated current. Arguments: the commitment and the excess. -/
opaque shedLevelUnrated : Nat → Int → Nat

/-- What STATUS_A shows in its 11-bit field for a committed load above 2047 (R177, R186): the spec states no value there. -/
opaque wideCommitted : Nat → BitVec 11

end Sys2Proof.Config
end

