-- ==== Sys2Proof/Syntax.lean ====
section
/-! DEFINITION. The commands of the GC412: one constructor of `Instr` for each row of spec/opcode_table.json, with the
operands that the event or the request frame carries. -/

namespace Sys2Proof

/-- Frame format on the apparatus bus (section 1.1). -/
inductive FrameFormat where
  | base
  | extended
deriving DecidableEq, Repr

/-- A frame sent by another unit without error, as it is seen on the bus (R1). -/
structure BusFrame where
  format : FrameFormat
  ident : Nat
  /-- a remote frame asks for data and carries none -/
  remote : Bool
  /-- the data length code, 0 to 15; above 8 it stands for 8 (R1) -/
  dlc : Nat
  data : List Byte
deriving DecidableEq, Repr

/-- A node's reply on the cab link after its start bit (R140, R188). -/
structure LinkReply where
  status : Byte
  length : Byte
  payload : List Byte
  check : Byte
deriving DecidableEq, Repr

/-- A management request with its arguments (R185). A number is what the frame's field holds; a request that ends with a
part argument carries the part (0 where the frame ends before it). -/
inductive Request where
  | identify
  | readSlot (slot part : Nat)
  | forceSlot (slot : Nat) (value : Int)
  | releaseSlot (slot : Nat)
  | readActuator (role part : Nat)
  | clearFault (role : Nat)
  | readNode (address part : Nat)
  | excludeNode (address : Nat)
  | admitNode (address : Nat)
  | loadPoint (page offset : Nat)
  | loadData (count : Nat) (data : List Byte)
  | readPage (bank page offset : Nat)
  | copyActive
  | checkPending
  | activate (check : Nat)
  | save
  | protect (groups : Nat)
  | unprotect (groups : Nat)
  | markFirst (rule : Nat)
  | markLast (rule : Nat)
  | keep (rule : Nat)
  | clearMarked
  | nodeRead (address register count : Nat)
  | nodeWrite (address register count : Nat)
  | windowPut (offset count : Nat) (data : List Byte)
  | windowGet (offset : Nat)
  | readEvents (kind part : Nat)
  | clearEvents (kinds : BitVec 32)
  | setEventMask (kinds : BitVec 32)
  | forceEvent (kind : Nat)
  | readCounters (group index part : Nat)
  | clearCounters
  | sleep
  | restart
deriving DecidableEq, Repr

/-- The commands: the rows of spec/opcode_table.json in its order. The events of timers, of the two buses and of the pins
come from outside; a management request stands for the arrival of its frame at the management unit. -/
inductive Instr where
  | powerOn
  | resetPinAssert
  | resetPinRelease
  | restartDelayExpiry
  | portJoin
  | frameArrival (frame : BusFrame)
  | receiveError
  | transmitStart
  | transmitSuccess
  | arbitrationLost
  | transmitError (noAck : Bool)
  | portRejoin
  | scanFrame
  | slotStaleExpiry (slot : Fin 32)
  | slotLapseExpiry (slot : Fin 32)
  | riseTimerExpiry
  | unknownTimerExpiry
  | fallTimerExpiry
  | purgeTimerExpiry
  | purgeLimitExpiry
  | boostTailExpiry
  | planPass
  | holdOffExpiry (role : Fin 20)
  | resumeGuardExpiry (role : Fin 20)
  | pollTimerExpiry (role : Fin 20)
  | moveDeadlineExpiry (role : Fin 20)
  | linkRequestSent
  | moveReply (reply : LinkReply)
  | homeReply (reply : LinkReply)
  | setReply (reply : LinkReply)
  | haltReply (reply : LinkReply)
  | queryReply (reply : LinkReply)
  | probeReply (reply : LinkReply)
  | replyWindowExpiry
  | rollcallRoundEnd (serial : BitVec 32) (kind : BitVec 8)
  | bindReply (reply : LinkReply)
  | rollcallTimerExpiry
  | probeTimerExpiry
  | readReply (reply : LinkReply)
  | writeReply (reply : LinkReply)
  | lineStuck
  | recoveryAttemptEnd (released : Bool)
  | recoveryDelayExpiry
  | failedRetryExpiry
  | unknownRequest (data : List Byte)
  | identify
  | readSlot (slot part : Nat)
  | forceSlot (slot : Nat) (value : Int)
  | releaseSlot (slot : Nat)
  | readActuator (role part : Nat)
  | clearFault (role : Nat)
  | readNode (address part : Nat)
  | excludeNode (address : Nat)
  | admitNode (address : Nat)
  | loadPoint (page offset : Nat)
  | loadData (count : Nat) (data : List Byte)
  | readPage (bank page offset : Nat)
  | copyActive
  | checkPending
  | activate (check : Nat)
  | save
  | savePageProgrammed (flaws : List Host.Cell)
  | saveComplete
  | protect (groups : Nat)
  | unprotect (groups : Nat)
  | protectWriteDone
  | markFirst (rule : Nat)
  | markLast (rule : Nat)
  | keep (rule : Nat)
  | clearMarked
  | nodeRead (address register count : Nat)
  | nodeWrite (address register count : Nat)
  | windowPut (offset count : Nat) (data : List Byte)
  | windowGet (offset : Nat)
  | readEvents (kind part : Nat)
  | clearEvents (kinds : BitVec 32)
  | setEventMask (kinds : BitVec 32)
  | forceEvent (kind : Nat)
  | readCounters (group index part : Nat)
  | clearCounters
  | sleep
  | restart
  | spacingHoldExpiry
  | statusTimerExpiry
  | ignitionTimerExpiry
deriving DecidableEq, Repr

end Sys2Proof
end

