-- ==== Sys2Proof/Decode.lean ====
section
/-! DEFINITION. Decoding. No row of the opcode table carries bits, so no word spells a command. What is decoded here is the
management request frame (R158, R185), and an encoder of it. -/

namespace Sys2Proof

/-- The command that a word spells by the table's bits: the table gives no row any bits. -/
def decodeTableWord (_nbits _w : Nat) : Option Instr := none

namespace RequestFrame

/-- A 16-bit argument, least significant byte first (chapter 12). -/
def word (lo hi : Byte) : Nat := lo.toNat + 256 * hi.toNat

/-- A 32-bit argument, least significant byte first. -/
def set32 (a b c d : Byte) : BitVec 32 := d ++ c ++ b ++ a

/-- A signed 16-bit argument. -/
def signedWord (lo hi : Byte) : Int :=
  if word lo hi < 32768 then (word lo hi : Int) else (word lo hi : Int) - 65536

/-- The part argument: 0 where the frame ends before it (R185). -/
def part : List Byte → Nat
  | [] => 0
  | p :: _ => p.toNat

/-- The data bytes that a count names: those of the frame, none where the count is out of its range, and no request where
the frame is too short for a count in range (R185). -/
def counted (max count : Nat) (data : List Byte) : Option (List Byte) :=
  if count = 0 ∨ max < count then some []
  else if data.length < count then none
  else some (data.take count)

end RequestFrame

open RequestFrame in
/-- The request that a request frame's data carries (R185): none where the frame is empty, its code is unknown, or it is too
short for its code. -/
def decodeRequest : List Byte → Option Request
  | [] => none
  | code :: args =>
    match code.toNat, args with
    | 0x01, _ => some .identify
    | 0x10, a :: rest => some (.readSlot a.toNat (part rest))
    | 0x11, a :: lo :: hi :: _ => some (.forceSlot a.toNat (signedWord lo hi))
    | 0x12, a :: _ => some (.releaseSlot a.toNat)
    | 0x18, a :: rest => some (.readActuator a.toNat (part rest))
    | 0x19, a :: _ => some (.clearFault a.toNat)
    | 0x1C, a :: rest => some (.readNode a.toNat (part rest))
    | 0x1D, a :: _ => some (.excludeNode a.toNat)
    | 0x1E, a :: _ => some (.admitNode a.toNat)
    | 0x20, p :: o :: _ => some (.loadPoint p.toNat o.toNat)
    | 0x21, n :: data => (counted 6 n.toNat data).map (.loadData n.toNat)
    | 0x22, b :: p :: o :: _ => some (.readPage b.toNat p.toNat o.toNat)
    | 0x23, _ => some .copyActive
    | 0x24, _ => some .checkPending
    | 0x25, lo :: hi :: _ => some (.activate (word lo hi))
    | 0x26, _ => some .save
    | 0x28, g :: _ => some (.protect g.toNat)
    | 0x29, g :: _ => some (.unprotect g.toNat)
    | 0x30, n :: _ => some (.markFirst n.toNat)
    | 0x31, n :: _ => some (.markLast n.toNat)
    | 0x32, n :: _ => some (.keep n.toNat)
    | 0x33, _ => some .clearMarked
    | 0x38, a :: lo :: hi :: n :: _ => some (.nodeRead a.toNat (word lo hi) n.toNat)
    | 0x39, a :: lo :: hi :: n :: _ => some (.nodeWrite a.toNat (word lo hi) n.toNat)
    | 0x3A, o :: n :: data => (counted 5 n.toNat data).map (.windowPut o.toNat n.toNat)
    | 0x3B, o :: _ => some (.windowGet o.toNat)
    | 0x40, k :: rest => some (.readEvents k.toNat (part rest))
    | 0x41, a :: b :: c :: d :: _ => some (.clearEvents (set32 a b c d))
    | 0x42, a :: b :: c :: d :: _ => some (.setEventMask (set32 a b c d))
    | 0x43, k :: _ => some (.forceEvent k.toNat)
    | 0x48, g :: i :: rest => some (.readCounters g.toNat i.toNat (part rest))
    | 0x49, _ => some .clearCounters
    | 0x50, _ => some .sleep
    | 0x51, _ => some .restart
    | _, _ => none

open RequestFrame in
/-- The data of a request frame (R185). -/
def encodeRequest : Request → List Byte
  | .identify => [0x01]
  | .readSlot slot p => [0x10, byte slot, byte p]
  | .forceSlot slot value => 0x11 :: byte slot :: bytes16 (code16 value)
  | .releaseSlot slot => [0x12, byte slot]
  | .readActuator role p => [0x18, byte role, byte p]
  | .clearFault role => [0x19, byte role]
  | .readNode address p => [0x1C, byte address, byte p]
  | .excludeNode address => [0x1D, byte address]
  | .admitNode address => [0x1E, byte address]
  | .loadPoint page offset => [0x20, byte page, byte offset]
  | .loadData count data => 0x21 :: byte count :: data
  | .readPage bank page offset => [0x22, byte bank, byte page, byte offset]
  | .copyActive => [0x23]
  | .checkPending => [0x24]
  | .activate check => 0x25 :: bytes16 check
  | .save => [0x26]
  | .protect groups => [0x28, byte groups]
  | .unprotect groups => [0x29, byte groups]
  | .markFirst rule => [0x30, byte rule]
  | .markLast rule => [0x31, byte rule]
  | .keep rule => [0x32, byte rule]
  | .clearMarked => [0x33]
  | .nodeRead address register count => 0x38 :: byte address :: (bytes16 register ++ [byte count])
  | .nodeWrite address register count => 0x39 :: byte address :: (bytes16 register ++ [byte count])
  | .windowPut offset count data => 0x3A :: byte offset :: byte count :: data
  | .windowGet offset => [0x3B, byte offset]
  | .readEvents kind p => [0x40, byte kind, byte p]
  | .clearEvents kinds => 0x41 :: bytes32 kinds.toNat
  | .setEventMask kinds => 0x42 :: bytes32 kinds.toNat
  | .forceEvent kind => [0x43, byte kind]
  | .readCounters group index p => [0x48, byte group, byte index, byte p]
  | .clearCounters => [0x49]
  | .sleep => [0x50]
  | .restart => [0x51]

end Sys2Proof
end

