-- ==== Sys2Proof/Machine/State.lean ====
section
/-! DEFINITION. The state of the GC412: plain data, one block of state for each block of the part, the queue of waiting
commands, and the reset state. -/

namespace Sys2Proof.Machine

/-- A timer: the time in milliseconds at which it expires while it runs, none while it is stopped. -/
abbrev Timer := Option Nat

/-- An actuator role, 0 to 19 (R112). -/
abbrev Role := Fin 20

/-! ### Apparatus port (chapter 1) -/

/-- A received frame record (section 1.1); its length is the number of its data bytes. -/
structure RxFrame where
  format : FrameFormat
  ident : Nat
  data : List Byte
deriving DecidableEq, Repr

/-- A frame the part sends; all are BASE frames (section 1.5). -/
structure TxFrame where
  ident : Nat
  data : List Byte
deriving DecidableEq, Repr

/-- A transmit place (R7). -/
inductive Place where
  | empty
  | ready (frame : TxFrame)
  | sending (frame : TxFrame) (successor : Option TxFrame)
deriving DecidableEq, Repr

/-- The port's view of its fault confinement (R10, R11). -/
inductive PortState where
  | errorActive
  | errorPassive
  | offline
deriving DecidableEq, Repr

/-- The apparatus port. The transmit places stand in identifier order: REPLY, STATUS_A, STATUS_E, STATUS_Z0 to Z3. -/
structure Port where
  /-- unit number read from the straps at the last start -/
  unit : BitVec 4
  /-- bus rate read at the last start: true for 500 kbit/s -/
  fast : Bool
  /-- the port has joined the bus since the last start (R13) -/
  joined : Bool
  rxQueue : List RxFrame
  rxDropped : Nat
  places : Vector Place 7
  txErrors : Nat
  rxErrors : Nat
deriving DecidableEq, Repr

/-! ### Frame classifier (chapter 2) -/

inductive ClassifierState where
  | idle
  | scanning
  | stopped
deriving DecidableEq, Repr

/-- The frame under scan, the table fixed for it and the scan position (section 2.1). -/
structure Scan where
  frame : RxFrame
  table : Bank
  position : Nat
deriving DecidableEq, Repr

structure RuleCounts where
  hit : Nat
  short : Nat
  na : Nat
deriving DecidableEq, Repr

structure Classifier where
  state : ClassifierState
  scan : Option Scan
  counts : Vector RuleCounts 96
  unclaimed : Nat
deriving DecidableEq, Repr

/-! ### Signal slots (chapter 3) -/

/-- The state of a slot that is not FORCED, and the underlying state of one that is (R34). -/
inductive Belief where
  | never
  | fresh
  | stale
  | lapsed
deriving DecidableEq, Repr

/-- The working record of a slot (R34). The slot is FORCED while `forced` holds a value; `belief` is then its
underlying state. `since` is the time of the last accepted update while the age runs (R35). -/
structure Slot where
  belief : Belief
  value : Int
  rank : Nat
  since : Option Nat
  clamped : Bool
  clampCount : Nat
  outranked : Nat
  forced : Option Int
deriving DecidableEq, Repr

/-! ### Air source controller (chapter 4) -/

inductive Mode where
  | fresh
  | shield
  | closed
  | purge
deriving DecidableEq, Repr

inductive Reason where
  | haze
  | unknown
  | manual
  | start
deriving DecidableEq, Repr

inductive Boost where
  | off
  | active
  | tail
deriving DecidableEq, Repr

/-- The air source controller. `index` is X, none for UNKNOWN; CONTAM_UNKNOWN is present exactly then (R53). -/
structure Air where
  index : Option Nat
  mode : Mode
  reason : Option Reason
  exposure : Bool
  rise : Timer
  unknown : Timer
  fall : Timer
  purge : Timer
  purgeLimit : Timer
  boostTail : Timer
  purgeElapsed : Bool
  fraction : Nat
  intake : Nat
  filter : Nat
  recirc : Nat
  shieldFloor : Nat
  boost : Boost
  defrostCopy : Bool
  defogLimited : Bool
  cabIngress : Bool
deriving DecidableEq, Repr

/-! ### Zone planner (chapter 5) -/

structure Zone where
  planned : Bool
  integrator : Int
  blend : Nat
  demand : Int
  level : Nat
  outlet : Nat
  openLoop : Bool
  spanLow : Bool
  defrostFlag : Bool
deriving DecidableEq, Repr

structure Planner where
  timer : Timer
  defrost : Bool
  previousDmax : Option Int
  stageTargets : Vector Bool 4
  zones : Vector Zone 4
deriving DecidableEq, Repr

/-! ### Load budget (chapter 6) -/

inductive Band where
  | high
  | mid
  | low
  | critical
  | unknown
deriving DecidableEq, Repr

/-- A consumer record (R99). -/
structure Consumer where
  accepted : Nat
  transit : Option Nat
  commitment : Nat
deriving DecidableEq, Repr

/-- An entry of the shed list (R105). -/
structure ShedEntry where
  role : Role
  level : Nat
deriving DecidableEq, Repr

structure Budget where
  band : Band
  avail : Nat
  consumers : Vector Consumer 20
  shedList : List ShedEntry
  capped : Vector Bool 4
deriving DecidableEq, Repr

/-! ### Actuator sequencer (chapter 7) -/

/-- The nine actuator states, in the order of R116. -/
inductive ActuatorState where
  | absent
  | uncertain
  | homing
  | idle
  | queued
  | moving
  | suspended
  | offline
  | faulted
deriving DecidableEq, Repr

inductive FaultReason where
  | stall
  | refused
  | nodeFault
deriving DecidableEq, Repr

/-- A target: a level 0 to 1000 with its class, URGENT or NORMAL (R112). -/
structure Target where
  level : Nat
  urgent : Bool
deriving DecidableEq, Repr

/-- The working record of an actuator (R115). -/
structure Actuator where
  state : ActuatorState
  position : Nat
  target : Option Target
  pendingTarget : Option Target
  overruns : Nat
  fault : Option FaultReason
  guardTime : Option Nat
  retryTime : Option Nat
deriving DecidableEq, Repr

inductive WorkKind where
  | move
  | home
  | set
deriving DecidableEq, Repr

/-- A Move Queue entry (R117). The target of a HOME entry is not read. -/
structure QueueEntry where
  role : Role
  kind : WorkKind
  level : Nat
  urgent : Bool
  holdOff : Timer
  shed : Bool
deriving DecidableEq, Repr

inductive HaltReason where
  | suspend
  | supersede
  | deadline
deriving DecidableEq, Repr

inductive Phase where
  | issuing
  | running
  | halting (why : HaltReason)
deriving DecidableEq, Repr

/-- An In-Flight item (R117). `id` tells the items of one role apart, so that a reply names its item (R121);
`asked` is the level of its entry, of which a CAPPED SET carries less (R121); `shedOrder` is a shed order kept with a SET
in flight (R129). -/
structure Item where
  role : Role
  id : Nat
  kind : WorkKind
  level : Nat
  asked : Nat
  urgent : Bool
  phase : Phase
  shed : Bool
  shedOrder : Option Nat
  issued : Nat
  deadline : Timer
  poll : Timer
deriving DecidableEq, Repr

/-- The suspended move: its actuator, original target and position reached (R117). -/
structure Suspended where
  role : Role
  level : Nat
  position : Nat
deriving DecidableEq, Repr

structure Sequencer where
  actuators : Vector Actuator 20
  queue : List QueueEntry
  inFlight : List Item
  suspended : Option Suspended
  armed : Bool
  /-- the model's own: the id of the next item issued -/
  nextId : Nat
deriving DecidableEq, Repr

/-! ### Cab link (chapter 8) -/

inductive NodeState where
  | bound
  | spare
  | lost
  | excluded
deriving DecidableEq, Repr

/-- A directory entry (R146). -/
structure Node where
  serial : Nat
  address : Nat
  kind : Nat
  state : NodeState
  consecutive : Nat
  total : Nat
deriving DecidableEq, Repr

inductive LinkState where
  | running
  | recovering
  | failed
deriving DecidableEq, Repr

/-- The node commands with their payload fields (R141, R188). `wide` says that the register address takes 2 bytes. -/
inductive LinkCommand where
  | rollcall (reset : Bool)
  | bind (serial address : Nat)
  | move (channel position : Nat)
  | home (channel : Nat)
  | set (channel level : Nat)
  | halt (channel : Nat)
  | query (channel : Nat)
  | read (wide : Bool) (register count : Nat)
  | write (wide : Bool) (register : Nat) (data : List Byte)
deriving DecidableEq, Repr

/-- The link classes, in the arbiter's order (R150, R151). -/
inductive LinkClass where
  | urgent
  | window
  | poll
  | normal
  | probe
  | rollcall
deriving DecidableEq, Repr

/-- Who placed a request and is told its outcome (R150). -/
inductive LinkOwner where
  | item (role : Role) (id : Nat)
  | window
  | probe
  | rollcall
deriving DecidableEq, Repr

/-- A link request (R150); `joined` is the time at which it joined the list. -/
structure LinkRequest where
  owner : LinkOwner
  address : Nat
  command : LinkCommand
  cls : LinkClass
  joined : Nat
deriving DecidableEq, Repr

/-- A rollcall series: the winner whose BIND is asked for or in progress, and the serials whose BIND has failed once in
the series (R143). -/
structure Series where
  winner : Option (Nat × Nat)
  failedBinds : List Nat
deriving DecidableEq, Repr

/-- What WAKING still waits for (R156). -/
inductive WakePhase where
  | none
  | awaitLink
  | probing
  | rolling
deriving DecidableEq, Repr

structure Link where
  /-- the directory, in the order its entries were made -/
  directory : List Node
  state : LinkState
  /-- the link request list, in the order the requests joined -/
  requests : List LinkRequest
  /-- the transaction in progress -/
  onLink : Option LinkRequest
  /-- its request has been sent whole (R139) -/
  sent : Bool
  replyWindow : Timer
  rollcallTimer : Timer
  probeTimer : Timer
  /-- recovery attempts ended since the line was found stuck -/
  attempts : Nat
  /-- a recovery attempt is in progress -/
  attempting : Bool
  delayTimer : Timer
  retryTimer : Timer
  window : Vector Byte 16
  series : Option Series
  /-- the series of a round or BIND that was on the link at the entry to WATCH and is still to end there (R156) -/
  leftOver : Option Series
  /-- the reset form of ROLLCALL is still to be sent (R157, R189) -/
  resetOwed : Bool
  wake : WakePhase
deriving DecidableEq, Repr

/-! ### Management unit (chapter 9) -/

/-- The completion request in progress (R158). -/
inductive Completion where
  | nodeRead
  | nodeWrite
  | protect (result : BitVec 4)
  | unprotect (result : BitVec 4)
deriving DecidableEq, Repr

/-- The rule-range sequence (R166). -/
inductive RuleRange where
  | idle
  | first (f : Nat)
  | range (f l : Nat) (kept : List Nat)
deriving DecidableEq, Repr

structure Management where
  inProgress : Option Completion
  /-- the load pointer: page and offset, none while unset -/
  pointer : Option (Nat × Nat)
  ruleRange : RuleRange
  protectSet : BitVec 4
  /-- SAVING, with the item being programmed: pages 0 to 19, 20 the check, 21 the read-back; none while IDLE -/
  saving : Option Nat
  storeInvalid : Bool
deriving DecidableEq, Repr

/-! ### Event unit (chapter 10) -/

structure Events where
  /-- for each kind 0 to 21, its parameter while its latch is set -/
  latched : Vector (Option Nat) 22
  mask : BitVec 22
  statusTimer : Timer
  spacingHold : Timer
  owed : Bool
deriving DecidableEq, Repr

/-! ### Part state (chapter 11) -/

inductive PartState where
  | starting
  | run
  | settling
  | watch
  | waking
deriving DecidableEq, Repr

inductive StartCause where
  | powerOn
  | resetPin
  | restart
deriving DecidableEq, Repr

structure Part where
  state : PartState
  cause : StartCause
  ignitionTimer : Timer
  /-- the model's own: IGNITION was not valid and true when it was last tested in RUN (R181 acts on the change) -/
  ignitionOff : Bool
  settleRequest : Bool
  /-- the reset pin is held low -/
  resetHeld : Bool
  /-- the 20 ms after which RESTART starts the part (R171) -/
  restartTimer : Timer
deriving DecidableEq, Repr

/-! ### The whole -/

/-- The volatile state of the blocks: all but the image banks, the store, the pins and the command queue. -/
structure Live where
  /-- the model's own: time in milliseconds since the last start -/
  now : Nat
  port : Port
  classifier : Classifier
  slots : Vector Slot 32
  air : Air
  planner : Planner
  budget : Budget
  sequencer : Sequencer
  link : Link
  management : Management
  events : Events
  part : Part
deriving DecidableEq, Repr

/-- The non-volatile store (section 9.5). `check` is none while the stored check word fits no image: a save is or was
under way. -/
structure Store where
  image : Bank
  check : Option Nat
  protectSet : BitVec 4
deriving DecidableEq, Repr

/-- The levels on the strap pins. -/
structure Straps where
  unit : BitVec 4
  fast : Bool
deriving DecidableEq, Repr

/-- The state of the part and the queue of commands that wait for it. -/
structure State where
  /-- the waiting commands, first in, first out -/
  pending : List Instr
  straps : Straps
  /-- the ACTIVE bank -/
  active : Bank
  /-- the PENDING bank -/
  loading : Bank
  store : Store
  /-- the model's own: how many store-word writes a start has cut off; `Config.storeWordWritten` is applied to it -/
  cuts : Nat
  live : Live
deriving DecidableEq, Repr

/-- Faults. There is none: the spec gives this block no behaviour that stops it. -/
inductive Fault where
deriving DecidableEq, Repr

/-- Refusals. -/
inductive Refusal where
  /-- Raised by exec's arm of a command that has no meaning yet; safe. No arm raises it now. -/
  | notModelled (mnemonic : String)
deriving DecidableEq, Repr

/-! ### Reset -/

/-- A slot at start-up (R51), holding the given default. -/
def Slot.initial (value : Int) : Slot :=
  { belief := .never, value := value, rank := 3, since := none, clamped := false, clampCount := 0, outranked := 0,
    forced := none }

/-- The air source controller at start-up (R72), for the image's shield_f and shield_floor_min. -/
def Air.initial (shieldF floorMin : Nat) : Air :=
  { index := none, mode := .shield, reason := some .start, exposure := false, rise := none, unknown := none,
    fall := none, purge := none, purgeLimit := none, boostTail := none, purgeElapsed := false, fraction := 0,
    intake := 0, filter := shieldF, recirc := 1000 - shieldF, shieldFloor := floorMin, boost := .off,
    defrostCopy := false, defogLimited := false, cabIngress := false }

/-- A zone at start-up (R97). -/
def Zone.initial : Zone :=
  { planned := false, integrator := 0, blend := 500, demand := 0, level := 0, outlet := 0, openLoop := false,
    spanLow := false, defrostFlag := false }

/-- The planner at start-up (R97). -/
def Planner.initial : Planner :=
  { timer := none, defrost := false, previousDmax := none, stageTargets := Vector.replicate 4 false,
    zones := Vector.replicate 4 Zone.initial }

/-- The load budget at start-up (R111). -/
def Budget.initial (avail : Nat) : Budget :=
  { band := .unknown, avail := avail,
    consumers := Vector.replicate 20 { accepted := 0, transit := none, commitment := 0 },
    shedList := [], capped := Vector.replicate 4 false }

/-- An actuator at start-up (R137). -/
def Actuator.initial : Actuator :=
  { state := .absent, position := 0, target := none, pendingTarget := none, overruns := 0, fault := none,
    guardTime := none, retryTime := none }

/-- The sequencer at start-up (R137). -/
def Sequencer.initial : Sequencer :=
  { actuators := Vector.replicate 20 Actuator.initial, queue := [], inFlight := [], suspended := none, armed := true,
    nextId := 0 }

/-- The cab link at start-up (R157), before its first series. -/
def Link.initial : Link :=
  { directory := [], state := .running, requests := [], onLink := none, sent := false, replyWindow := none,
    rollcallTimer := none, probeTimer := none, attempts := 0, attempting := false, delayTimer := none,
    retryTimer := none, window := Vector.replicate 16 0, series := none, leftOver := none,
    resetOwed := true, wake := .none }

/-- The port at start-up (R13). -/
def Port.initial (straps : Straps) : Port :=
  { unit := straps.unit, fast := straps.fast, joined := false, rxQueue := [], rxDropped := 0,
    places := Vector.replicate 7 .empty, txErrors := 0, rxErrors := 0 }

/-- The classifier at start-up (R32). -/
def Classifier.initial : Classifier :=
  { state := .idle, scan := none, counts := Vector.replicate 96 { hit := 0, short := 0, na := 0 }, unclaimed := 0 }

/-- The management unit at start-up (R172). -/
def Management.initial (protectSet : BitVec 4) (storeInvalid : Bool) : Management :=
  { inProgress := none, pointer := none, ruleRange := .idle, protectSet := protectSet, saving := none,
    storeInvalid := storeInvalid }

/-- The event unit at start-up (R179), at time 0, before the start-up sequence latches anything. -/
def Events.initial (statusPeriod : Nat) : Events :=
  { latched := Vector.replicate 22 none, mask := 0, statusTimer := some statusPeriod, spacingHold := none,
    owed := false }

/-- The part state block at start-up (R180). -/
def Part.initial (cause : StartCause) : Part :=
  { state := .starting, cause := cause, ignitionTimer := none, ignitionOff := false, settleRequest := false,
    resetHeld := false, restartTimer := none }

/-- The defaults of the default image's slots (R51): 200 for slots 0 to 10, which hold temperatures, 0 for the others. -/
def defaultSlotValues : Vector Slot 32 :=
  Vector.ofFn fun n => Slot.initial (if n.val ≤ 10 then 200 else 0)

/-- The machine right after power-on (R180) with an empty store, so on the default image (R169): STORE_INVALID latched
and its STATUS_E waiting (R179), the ROLLCALL of the first series on the link in its reset form (R157, R189). The straps
are untied and read 1 (their pull-ups), so the unit number is 15 and the rate 500 kbit/s. -/
def State.reset : State :=
  { pending := []
    straps := { unit := 15, fast := true }
    active := []
    loading := []
    store := { image := [], check := none, protectSet := 0 }
    cuts := 0
    live :=
      { now := 0
        port := { Port.initial { unit := 15, fast := true } with
          places := (Vector.replicate 7 Place.empty).set 2
            (.ready { ident := 0x5FF, data := [0x00, 0x00, 0x20, 0x81, 0x00] }) }
        classifier := Classifier.initial
        slots := defaultSlotValues
        air := Air.initial 400 300
        planner := Planner.initial
        budget := Budget.initial 150
        sequencer := Sequencer.initial
        link := { Link.initial with
          onLink := some
            { owner := .rollcall, address := 0, command := .rollcall true, cls := .rollcall, joined := 0 }
          series := some { winner := none, failedBinds := [] }
          resetOwed := false }
        management := Management.initial 0 true
        events := { Events.initial 1000 with
          latched := (Vector.replicate 22 none).set 21 (some 0)
          spacingHold := some 100 }
        part := Part.initial .powerOn } }

end Sys2Proof.Machine
end

