-- ==== Sys2Proof/Machine/Ops.lean ====
section
/-! DEFINITION. Named operations over banks, numbers, tables and the clock. -/

namespace Sys2Proof.Machine

/-! ### Rounding (section Arithmetic of the introduction) -/

/-- `n / d` rounded to the nearest integer with halves away from zero, for `d > 0`. -/
def divAway (n : Int) (d : Nat) : Int :=
  if 0 ≤ n then (2 * n + d) / (2 * d) else -((2 * (-n) + d) / (2 * d))

/-- `n / d` rounded to the nearest integer with halves up, for `d > 0`. -/
def divHalfUp (n d : Int) : Int := (2 * n + d) / (2 * d)

/-- `n / d` rounded up, for `d > 0`. -/
def ceilDiv (n d : Nat) : Nat := (n + d - 1) / d

/-- "Clamped to [a, b]". -/
def clamp (x a b : Int) : Int := if x < a then a else if b < x then b else x

/-- One more, stopping at the maximum ("Every counter the part keeps stops at its maximum value"). -/
def countUp (n max : Nat) : Nat := if n < max then n + 1 else n

/-! ### Tables -/

/-- The table with every entry changed by `f`. -/
def mapAll {α β : Type} {n : Nat} (f : α → β) (v : Vector α n) : Vector β n := v.map f

/-- The table with entry `i` changed by `f`. -/
def updateAt {α : Type} {n : Nat} (v : Vector α n) (i : Fin n) (f : α → α) : Vector α n := v.set i (f (v.get i))

/-! ### Full ranges of the slot roles (R33) -/

/-- The full range of a slot's role (R33). -/
def slotRange (n : Nat) : Int × Int :=
  if n ≤ 10 then (-400, 1500)
  else if n = 12 then (0, 400)
  else if n = 13 then (0, 2000)
  else if 17 ≤ n ∧ n ≤ 20 then (0, 1000)
  else if n = 21 then (0, 255)
  else if n = 24 then (0, 15)
  else if 25 ≤ n ∧ n ≤ 28 then (0, 1000)
  else if n = 29 then (-500, 500)
  else if n = 31 then (0, 1000)
  else (0, 1)

/-! ### The default image (R169), byte by byte (R187) -/

/-- Byte `k` of a list, 0 beyond it. -/
def byteAt (l : List Byte) (k : Nat) : Byte := l.getD k 0

/-- A slot definition of the default image (R169, R187). -/
def defaultSlotRecord (n : Nat) : List Byte :=
  [1, 20, 50, 0] ++ bytes16 (code16 (slotRange n).1) ++ bytes16 (code16 (slotRange n).2)
    ++ bytes16 (if n ≤ 10 then 200 else 0)

/-- A zone profile of the default image (R169, R187). -/
def defaultZoneRecord (z : Nat) : List Byte :=
  [if z ≤ 2 then 1 else 0, 24, 6, 32] ++ bytes16 210 ++ bytes16 150 ++ bytes16 300 ++ bytes16 4000 ++ bytes16 150
    ++ bytes16 900

/-- The 16-bit fields at offsets 0 to 84 of page 19 in the default image (R169, R187). -/
def defaultParameters : List Nat :=
  [256, 256, 256, 256, 150, 400, 300, 80, 20, 300, 100, 120, 360, 1000, 300, 400, code16 (-100), 350, 800, 50, 300, 20,
   25, 10, 200, 400, 100, 60, 30, 30, 300, 272, 250, 240, 80, 60, 60, 40, 90, 15, 500, 1000, 100]

/-- Page 19 of the default image: its parameters, and watch_delay in 4 bytes (R187). No table gives the wake data bytes and
data masks at offsets 90 to 97 a default: that they are 0 is the model's choice, log entry 46. -/
def defaultParameterByte (off : Nat) : Byte :=
  if off < 86 then byteAt (bytes16 (defaultParameters.getD (off / 2) 0)) (off % 2)
  else byteAt (bytes32 60000) (off - 86)

/-- The byte of the default image at an address (R169): what an address that a bank does not list reads as. -/
def defaultByte (a : Nat) : Byte :=
  let page := a / 128
  let off := a % 128
  if page < 12 then 0
  else if page < 16 then byteAt (defaultSlotRecord ((page - 12) * 8 + off / 16)) (off % 16)
  else if page = 18 ∧ off < 96 then byteAt (defaultZoneRecord (off / 24)) (off % 24)
  else if page = 19 then defaultParameterByte off
  else 0

/-! ### Banks (R160, R161) -/

/-- The number of bytes of a bank (R160). -/
def bankSize : Nat := 2560

/-- The address of a page's byte. -/
def addressOf (page off : Nat) : Nat := 128 * page + off

/-- The byte of a bank at an address. -/
def readByte : Bank → Nat → Byte
  | [], a => defaultByte a
  | (k, v) :: rest, a => if a = k then v else readByte rest a

/-- The bank with one byte written, in canonical form: a byte equal to the default image's is not listed. -/
def writeByte : Bank → Nat → Byte → Bank
  | [], a, v => if v = defaultByte a then [] else [(a, v)]
  | (k, w) :: rest, a, v =>
    if a < k then (if v = defaultByte a then (k, w) :: rest else (a, v) :: (k, w) :: rest)
    else if a = k then (if v = defaultByte a then rest else (a, v) :: rest)
    else (k, w) :: writeByte rest a v

/-- The form of a bank from address `lo` on: rising addresses below the bank's size, no listed byte equal to the default
image's. -/
def bankWfFrom : Nat → Bank → Bool
  | _, [] => true
  | lo, (k, v) :: rest => decide (lo ≤ k) && decide (k < bankSize) && decide (v ≠ defaultByte k) && bankWfFrom (k + 1) rest

/-- The canonical form of a bank. -/
def bankWf (b : Bank) : Bool := bankWfFrom 0 b

/-- Several bytes read from an address on. -/
def readBytes (b : Bank) (a : Nat) : Nat → List Byte
  | 0 => []
  | n + 1 => readByte b a :: readBytes b (a + 1) n

/-- The bytes of a page from an offset on, the offset wrapping from 127 to 0 (R162, R163). -/
def readWrapped (b : Bank) (page off : Nat) : Nat → List Byte
  | 0 => []
  | n + 1 => readByte b (addressOf page (off % 128)) :: readWrapped b page ((off + 1) % 128) n

/-- Bytes written to a page from an offset on, wrapping (R162): the bank and the offset after the last byte. -/
def writeWrapped (b : Bank) (page off : Nat) : List Byte → Bank × Nat
  | [] => (b, off)
  | v :: rest => writeWrapped (writeByte b (addressOf page (off % 128)) v) page ((off + 1) % 128) rest

/-- `n` bytes copied from one bank into another, from an address on. -/
def copyBytes (src : Bank) (a : Nat) : Nat → Bank → Bank
  | 0, dst => dst
  | n + 1, dst => copyBytes src (a + 1) n (writeByte dst a (readByte src a))

/-- Whether two banks hold the same bytes in `n` bytes from an address on. -/
def sameBytes (x y : Bank) (a n : Nat) : Bool := readBytes x a n == readBytes y a n

/-- The sum of `n` bytes from an address on. -/
def sumBytes (b : Bank) (a : Nat) : Nat → Nat
  | 0 => 0
  | n + 1 => (readByte b a).toNat + sumBytes b (a + 1) n

/-- The bank check: the sum of the 2,560 bytes modulo 65,536 (R161). -/
def bankCheck (b : Bank) : Nat := sumBytes b 0 bankSize % 65536

/-! ### Fields of a bank (R187) -/

def u8 (b : Bank) (a : Nat) : Nat := (readByte b a).toNat

/-- An unsigned 16-bit field, least significant byte first. -/
def u16 (b : Bank) (a : Nat) : Nat := u8 b a + 256 * u8 b (a + 1)

/-- A signed 16-bit field (two's complement). -/
def s16 (b : Bank) (a : Nat) : Int :=
  let v := u16 b a
  if v < 32768 then (v : Int) else (v : Int) - 65536

def u32 (b : Bank) (a : Nat) : Nat := u16 b a + 65536 * u16 b (a + 2)

/-- Bits `lo` to `lo + width - 1` of a number. -/
def bits (n lo width : Nat) : Nat := n / 2 ^ lo % 2 ^ width

/-- Bit `k` of a number. -/
def bit (n k : Nat) : Bool := bits n k 1 == 1

/-- Fields of given widths packed from bit 0 upward. -/
def packBits : List (Nat × Nat) → Nat
  | [] => 0
  | (width, v) :: rest => v % 2 ^ width + 2 ^ width * packBits rest

/-- A number in `n` bytes, least significant first. -/
def bytesLE (v : Nat) : Nat → List Byte
  | 0 => []
  | n + 1 => byte (v % 256) :: bytesLE (v / 256) n

/-- The sum of bytes. -/
def sumOf : List Byte → Nat
  | [] => 0
  | v :: rest => v.toNat + sumOf rest

/-! ### Clock -/

/-- The clock moved on to a time, if it is not past it already: an expiry is taken at or after its time. -/
def Live.advanceTo (t : Nat) (l : Live) : Live := { l with now := max l.now t }

/-- The expiry of a timer: nothing happens where the timer is stopped; else the clock is at or past its expiry time
and `k` follows. -/
def onExpiry (t : Timer) (k : Live → Live) (l : Live) : Live :=
  match t with
  | none => l
  | some e => k (l.advanceTo e)

/-- One millisecond passes. It is what step does where no command waits. -/
def State.tick (s : State) : State := { s with live := { s.live with now := s.live.now + 1 } }

/-- Whether the part is held in reset (R180); nothing but the release of the pin is taken then. -/
def State.held (s : State) : Bool := s.live.part.resetHeld

/-- An event of the running part: without effect while the part is held in reset. -/
def State.running (s : State) (f : Live → Live) : State := if s.held then s else { s with live := f s.live }

end Sys2Proof.Machine
end

