-- ==== Sys2Proof/Machine/Operands.lean ====
section
/-! DEFINITION. The records and parameters of an image (R187), field extraction from a frame (R22 to R27), and the
presented pairs of the slots (R36). -/

namespace Sys2Proof.Machine

/-! ### Parameters of page 19 (R187) -/

/-- The address of an offset of page 19. -/
def p19 (off : Nat) : Nat := addressOf 19 off

def hazeWeight (img : Bank) (k : Fin 4) : Nat := u16 img (p19 (2 * k.val))
def shieldOn (img : Bank) : Nat := u16 img (p19 8)
def closeOn (img : Bank) : Nat := u16 img (p19 10)
def closeOff (img : Bank) : Nat := u16 img (p19 12)
def clearBelow (img : Bank) : Nat := u16 img (p19 14)
def riseDwell (img : Bank) : Nat := u16 img (p19 16)
def fallDwell (img : Bank) : Nat := u16 img (p19 18)
def unknownDwell (img : Bank) : Nat := u16 img (p19 20)
def purgeTime (img : Bank) : Nat := u16 img (p19 22)
def purgeLimitTime (img : Bank) : Nat := u16 img (p19 24)
def freshNominal (img : Bank) : Nat := u16 img (p19 26)
def freshMin (img : Bank) : Nat := u16 img (p19 28)
def shieldFraction (img : Bank) : Nat := u16 img (p19 30)
def coldLimit (img : Bank) : Int := s16 img (p19 32)
def hotLimit (img : Bank) : Int := s16 img (p19 34)
def boostLevel (img : Bank) : Nat := u16 img (p19 36)
def boostTailTime (img : Bank) : Nat := u16 img (p19 38)
def shieldFloorMin (img : Bank) : Nat := u16 img (p19 40)
def shieldStep (img : Bank) : Nat := u16 img (p19 42)
def pressureTarget (img : Bank) : Int := s16 img (p19 44)
def pressureBand (img : Bank) : Nat := u16 img (p19 46)
def ingressLimit (img : Bank) : Nat := u16 img (p19 48)
def coolantMin (img : Bank) : Int := s16 img (p19 50)
def coreDrop (img : Bank) : Nat := u16 img (p19 52)
def stageRise (img : Bank) : Nat := u16 img (p19 54)
def spanMin (img : Bank) : Nat := u16 img (p19 56)
def defrostAuto (img : Bank) : Int := s16 img (p19 58)
def baseBudget (img : Bank) : Nat := u16 img (p19 60)
def bandHi (img : Bank) : Nat := u16 img (p19 62)
def bandMid (img : Bank) : Nat := u16 img (p19 64)
def bandLo (img : Bank) : Nat := u16 img (p19 66)
def blowerRated (img : Bank) (z : Fin 4) : Nat := u16 img (p19 (68 + 2 * z.val))
def stageCurrent (img : Bank) : Nat := u16 img (p19 76)
def motionCurrent (img : Bank) : Nat := u16 img (p19 78)
def planPeriod (img : Bank) : Nat := u16 img (p19 80)
def statusPeriod (img : Bank) : Nat := u16 img (p19 82)
def pollInterval (img : Bank) : Nat := u16 img (p19 84)
def watchDelay (img : Bank) : Nat := u32 img (p19 86)

/-! ### Rule records (section 2.1) -/

/-- A rule as the classifier reads it. -/
structure Rule where
  enabled : Bool
  format : FrameFormat
  veto : Bool
  chain : Bool
  signed : Bool
  big : Bool
  allOnes : Bool
  minLen : Nat
  rank : Nat
  start : Nat
  width : Nat
  slot : Fin 32
  ident : Nat
  mask : Nat
  gain : Int
  offset : Int
deriving DecidableEq, Repr

/-- Rule `n` of an image: record `n mod 8` of page `n div 8` (section 2.1, R187). -/
def ruleAt (img : Bank) (n : Nat) : Rule :=
  let a := 16 * n
  let flags := u8 img a
  let lens := u8 img (a + 1)
  let field := u16 img (a + 2)
  { enabled := bit flags 0
    format := if bit flags 1 then .extended else .base
    veto := bit flags 2
    chain := bit flags 3
    signed := bit flags 4
    big := bit flags 5
    allOnes := bit flags 6
    minLen := bits lens 0 4
    rank := bits lens 4 2
    start := bits field 0 6
    width := bits field 6 5
    slot := ⟨field / 2048 % 32, Nat.mod_lt _ (by decide)⟩
    ident := u32 img (a + 4)
    mask := u32 img (a + 8)
    gain := s16 img (a + 12)
    offset := s16 img (a + 14) }

/-- A rule matches a frame (R17). -/
def Rule.matches (r : Rule) (f : RxFrame) : Bool :=
  r.enabled && decide (r.format = f.format) && (f.ident &&& r.mask) == (r.ident &&& r.mask)

/-- The raw value of a field before its sign is read: in LITTLE order bits start to start + width - 1 of the data bits
(R22), in BIG order whole bytes, the first the most significant (R23). -/
def rawBits (r : Rule) (data : List Byte) : Nat :=
  if r.big then
    (if r.width = 16 then 256 * (byteAt data (r.start / 8)).toNat + (byteAt data (r.start / 8 + 1)).toNat
     else (byteAt data (r.start / 8)).toNat)
  else bits (data.foldr (fun v acc => v.toNat + 256 * acc) 0) r.start r.width

/-- The field's bits are the not-available pattern: every bit of its width set (R26). -/
def notAvailable (r : Rule) (raw : Nat) : Bool := r.allOnes && raw == 2 ^ r.width - 1

/-- The raw value read as two's complement of the field's width where the rule asks for it (R24). -/
def signRead (r : Rule) (raw : Nat) : Int :=
  if r.signed ∧ 2 ^ (r.width - 1) ≤ raw then (raw : Int) - 2 ^ r.width else raw

/-- The scaled value (R27). -/
def scaled (r : Rule) (raw : Int) : Int := divAway (raw * r.gain) 1024 + r.offset

/-! ### Slot definitions (R34) -/

structure SlotDef where
  enabled : Bool
  lo : Int
  hi : Int
  default : Int
  maxAge : Nat
  holdTime : Nat
deriving DecidableEq, Repr

/-- The address of slot `n`'s definition: record `n mod 8` of page `12 + n div 8` (section 3.2). -/
def slotDefAddress (n : Nat) : Nat := addressOf 12 0 + 16 * n

def slotDef (img : Bank) (n : Fin 32) : SlotDef :=
  let a := slotDefAddress n.val
  { enabled := u8 img a == 1, maxAge := u8 img (a + 1), holdTime := u8 img (a + 2), lo := s16 img (a + 4),
    hi := s16 img (a + 6), default := s16 img (a + 8) }

/-- The age in milliseconds at which a slot goes STALE (R42). -/
def SlotDef.staleAge (d : SlotDef) : Nat := d.maxAge * 100

/-- The age in milliseconds at which a slot goes LAPSED (R43). -/
def SlotDef.lapseAge (d : SlotDef) : Nat := (d.maxAge + d.holdTime) * 100

/-! ### Bindings (R113) -/

structure Binding where
  serial : Nat
  channel : Nat
  reverse : Bool
  deadband : Nat
  travel : Nat
deriving DecidableEq, Repr

/-- The address of record `n` of page 16, records 8 to 15 of it and then those of page 17 following (R113, R187). -/
def bindingAddress (n : Nat) : Nat := addressOf 16 0 + 8 * n

def binding (img : Bank) (r : Role) : Binding :=
  let a := bindingAddress r.val
  { serial := u32 img a, channel := bits (u8 img (a + 4)) 0 4, reverse := bits (u8 img (a + 4)) 4 4 == 1,
    deadband := u8 img (a + 5), travel := u16 img (a + 6) }

/-- A role is bound: its binding names a node serial other than 0 (R113). -/
def isBound (img : Bank) (r : Role) : Bool := (binding img r).serial != 0

/-- All the roles, in order. -/
def allRoles : List Role := List.finRange 20

/-- Some binding of the image names the serial (R143; the 20 binding records alone, R114). -/
def namesSerial (img : Bank) (serial : Nat) : Bool :=
  serial != 0 && allRoles.any fun r => (binding img r).serial == serial

/-- Two positions are within a deadband of each other (R113). -/
def within (deadband p q : Nat) : Bool := decide (max p q - min p q ≤ deadband)

/-! ### Zone profiles (chapter 5) -/

structure Profile where
  enabled : Bool
  kp : Nat
  ki : Nat
  gw : Nat
  setpoint : Int
  sLo : Int
  sHi : Int
  ilim : Nat
  wmin : Nat
  wmax : Nat
deriving DecidableEq, Repr

def profileAddress (z : Nat) : Nat := addressOf 18 (24 * z)

def profile (img : Bank) (z : Fin 4) : Profile :=
  let a := profileAddress z.val
  { enabled := u8 img a == 1, kp := u8 img (a + 1), ki := u8 img (a + 2), gw := u8 img (a + 3),
    setpoint := s16 img (a + 4), sLo := s16 img (a + 6), sHi := s16 img (a + 8), ilim := u16 img (a + 10),
    wmin := u16 img (a + 12), wmax := u16 img (a + 14) }

/-! ### Wake patterns (section 1.3) -/

structure WakePattern where
  enabled : Bool
  format : FrameFormat
  ident : Nat
  mask : Nat
  dataByte : Byte
  dataMask : Byte
deriving DecidableEq, Repr

def wakePattern (img : Bank) (k : Fin 4) : WakePattern :=
  let a := addressOf 18 (96 + 8 * k.val)
  let w := u32 img a
  { enabled := bit w 30, format := if bit w 29 then .extended else .base, ident := bits w 0 29,
    mask := bits (u32 img (a + 4)) 0 29, dataByte := readByte img (p19 (90 + 2 * k.val)),
    dataMask := readByte img (p19 (91 + 2 * k.val)) }

/-- A frame matches a wake pattern (R5). -/
def WakePattern.matches (w : WakePattern) (f : RxFrame) : Bool :=
  w.enabled && decide (w.format = f.format) && (f.ident &&& w.mask) == (w.ident &&& w.mask) &&
    (w.dataMask == 0 || match f.data with
      | [] => false
      | b :: _ => (b &&& w.dataMask) == (w.dataByte &&& w.dataMask))

/-! ### What readers see of a slot (R36) -/

/-- A presented pair: the value and its validity. -/
structure Presented where
  value : Int
  valid : Bool
deriving DecidableEq, Repr

/-- The presented value and validity of a slot (R36). -/
def presented (img : Bank) (slots : Vector Slot 32) (n : Fin 32) : Presented :=
  let s := slots.get n
  match s.forced with
  | some v => { value := v, valid := true }
  | none =>
    match s.belief with
    | .fresh | .stale => { value := s.value, valid := true }
    | .never | .lapsed => { value := (slotDef img n).default, valid := false }

/-- "Valid and true" (R36). -/
def Presented.isTrue (p : Presented) : Bool := p.valid && p.value != 0

/-- "Valid and false" (R36). -/
def Presented.isFalse (p : Presented) : Bool := p.valid && p.value == 0

/-- What the live part presents of a slot. -/
def seen (img : Bank) (l : Live) (n : Fin 32) : Presented := presented img l.slots n

/-- The age of a slot in milliseconds (R35). -/
def slotAge (now : Nat) (s : Slot) : Nat :=
  match s.since with
  | none => 0
  | some t => min (now - t) 6553500

end Sys2Proof.Machine
end

