-- ==== Sys2Proof/Machine/Port.lean ====
section
/-! DEFINITION. The apparatus port (chapter 1): transmit places, identifiers, fault confinement. -/

namespace Sys2Proof.Machine

/-! ### Identifiers (R9) -/

def requestIdent (unit : BitVec 4) : Nat := 0x5C0 + unit.toNat
def replyIdent (unit : BitVec 4) : Nat := 0x5D0 + unit.toNat
def statusAIdent (unit : BitVec 4) : Nat := 0x5E0 + unit.toNat
def statusEIdent (unit : BitVec 4) : Nat := 0x5F0 + unit.toNat
def statusZIdent (unit : BitVec 4) (z : Fin 4) : Nat := 0x600 + 4 * unit.toNat + z.val

/-- The transmit places by their frame kind (R8). -/
def replyPlace : Fin 7 := 0
def statusAPlace : Fin 7 := 1
def statusEPlace : Fin 7 := 2
def statusZPlace (z : Fin 4) : Fin 7 := ⟨3 + z.val, by omega⟩

/-! ### Transmit places (R7) -/

/-- The effect of placing a new frame. -/
def Place.put (f : TxFrame) : Place → Place
  | .empty => .ready f
  | .ready _ => .ready f
  | .sending g _ => .sending g (some f)

/-- The end of a transmission without error. -/
def Place.sent : Place → Place
  | .sending _ (some f) => .ready f
  | .sending _ none => .empty
  | p => p

/-- The end of a transmission by lost arbitration, an error, or the port's going OFFLINE (R7, R11). -/
def Place.unsent : Place → Place
  | .sending _ (some f) => .ready f
  | .sending f none => .ready f
  | p => p

/-- The start of a transmission. -/
def Place.begin : Place → Place
  | .ready f => .sending f none
  | p => p

def Place.isReady : Place → Bool
  | .ready _ => true
  | _ => false

def Place.isSending : Place → Bool
  | .sending _ _ => true
  | _ => false

/-- The frame on the bus from a place, if it is SENDING. -/
def Place.onBus : Place → Option TxFrame
  | .sending f _ => some f
  | _ => none

/-- The seven places, lowest identifier first. -/
def allPlaces : List (Fin 7) := List.finRange 7

/-- The place whose frame is on the bus. -/
def Port.sendingPlace (p : Port) : Option (Fin 7) := allPlaces.find? fun i => (p.places.get i).isSending

/-- The READY place with the lowest identifier. -/
def Port.readyPlace (p : Port) : Option (Fin 7) := allPlaces.find? fun i => (p.places.get i).isReady

/-- The port with one place changed. -/
def Port.onPlace (i : Fin 7) (f : Place → Place) (p : Port) : Port := { p with places := updateAt p.places i f }

/-- A block places a frame (R7). -/
def placeFrame (i : Fin 7) (f : TxFrame) (l : Live) : Live := { l with port := l.port.onPlace i (Place.put f) }

/-! ### Fault confinement (R10, R11) -/

/-- The port state follows from the counts. -/
def Port.state (p : Port) : PortState :=
  if 256 ≤ p.txErrors then .offline
  else if 127 < p.txErrors ∨ 127 < p.rxErrors then .errorPassive
  else .errorActive

/-- The port receives, acknowledges and transmits: it has joined the bus and is not OFFLINE (R11, R13). -/
def Port.onBus (p : Port) : Bool := p.joined && p.state != .offline

/-- A frame is received without error: the receive error count less 1, not below 0 (R10). -/
def Port.goodReception (p : Port) : Port := { p with rxErrors := p.rxErrors - 1 }

/-- A frame being received ends with an error (R10). -/
def Port.badReception (p : Port) : Port := { p with rxErrors := countUp p.rxErrors 255 }

/-- The transmit error count after an error: 8 more, 256 where that is above 255 (R10). -/
def raisedTxErrors (n : Nat) : Nat := if 255 < n + 8 then 256 else n + 8

/-- The frame of a reply: request code, result, six data bytes, those the reply does not define 0 (R185). -/
def replyData (code : Byte) (result : Nat) (data : List Byte) : List Byte :=
  [code, byte result] ++ (data ++ List.replicate 6 0).take 6

/-- A reply is placed in REPLY (R2, R158, R185). -/
def reply (code : Byte) (result : Nat) (data : List Byte) (l : Live) : Live :=
  placeFrame replyPlace { ident := replyIdent l.port.unit, data := replyData code result data } l

end Sys2Proof.Machine
end

