-- ==== Sys2Proof/Machine/Flags.lean ====
section
/-! DEFINITION. The event unit (chapter 10): the latches, the mask, the present set, and the status frames. -/

namespace Sys2Proof.Machine

/-! ### Event kinds (R173), numbered as R185 numbers them -/

abbrev Kind := Fin 22

def kSlotLapsed : Kind := 0
def kModeChange : Kind := 1
def kContamUnknown : Kind := 2
def kDefogLimited : Kind := 3
def kCabIngress : Kind := 4
def kPurgeLimit : Kind := 5
def kSpanLow : Kind := 6
def kBlowerCapped : Kind := 7
def kLoadShed : Kind := 8
def kMoveOverrun : Kind := 9
def kActuatorFault : Kind := 10
def kNodeLost : Kind := 11
def kNodeFound : Kind := 12
def kDirectoryFull : Kind := 13
def kLinkStuck : Kind := 14
def kLinkFailed : Kind := 15
def kRxOverflow : Kind := 16
def kPortOffline : Kind := 17
def kImageActivated : Kind := 18
def kSaveDone : Kind := 19
def kSaveFailed : Kind := 20
def kStoreInvalid : Kind := 21

/-! ### Codes of the enumerations (R185, R186) -/

def Mode.code : Mode → Nat
  | .fresh => 0
  | .shield => 1
  | .closed => 2
  | .purge => 3

def reasonCode : Option Reason → Nat
  | none => 0
  | some .haze => 1
  | some .unknown => 2
  | some .manual => 3
  | some .start => 4

def PartState.code : PartState → Nat
  | .starting => 0
  | .run => 1
  | .settling => 2
  | .watch => 3
  | .waking => 4

/-- A Boolean as a field of one bit. -/
def flag (b : Bool) : Nat := if b then 1 else 0

/-! ### Outputs that the status frames read -/

/-- The effective fresh fraction: the INTAKE target plus the FILTER target (R54). -/
def Air.fEff (a : Air) : Nat := a.intake + a.filter

/-- Boost is in force in ACTIVE and TAIL (R64). -/
def Air.boosting (a : Air) : Bool := a.boost != .off

/-- The sum of the commitments (R99). -/
def Budget.committed (b : Budget) : Nat := (b.consumers.toList.map (·.commitment)).sum

/-! ### The latched set and the present set -/

/-- A set of flags as a number, the first flag its bit 0. -/
def flagsToNat : List Bool → Nat
  | [] => 0
  | b :: rest => flag b + 2 * flagsToNat rest

/-- The latched set, bit k for kind k. -/
def Events.latchedSet (e : Events) : Nat := flagsToNat (e.latched.toList.map (·.isSome))

/-- The present set (R176), bit 0 CONTAM_UNKNOWN to bit 8 NODE_LOST (R185). -/
def presentSet (l : Live) : Nat :=
  flagsToNat
    [ l.air.index.isNone,
      l.air.defogLimited,
      l.air.cabIngress,
      l.planner.zones.toList.any (·.spanLow),
      l.budget.capped.toList.any id,
      l.link.state == .failed,
      l.port.state == .offline,
      l.management.storeInvalid,
      l.link.directory.any fun n => n.state == .lost ]

/-! ### Status frames (R186) -/

/-- The committed load in the 11 bits that STATUS_A gives it (R186); above 2047 the spec states no value (log entry 33). -/
def committedField (b : Budget) : Nat :=
  if b.committed < 2048 then b.committed else (Config.wideCommitted b.committed).toNat

/-- STATUS_A as it is composed now (R177, R186). -/
def statusA (l : Live) : TxFrame :=
  { ident := statusAIdent l.port.unit
    data := bytesLE (packBits
      [ (3, l.part.state.code), (1, flag l.planner.defrost), (1, flag l.air.boosting), (2, l.air.mode.code),
        (3, reasonCode l.air.reason), (10, l.air.index.getD 1023), (10, l.air.fEff), (11, l.budget.avail),
        (11, committedField l.budget) ]) 8 }

/-- STATUS_E as it is composed now. -/
def statusE (l : Live) : TxFrame :=
  { ident := statusEIdent l.port.unit
    data := bytesLE l.events.latchedSet 3 ++ bytesLE (presentSet l) 2 }

/-- STATUS_Zz as it is composed now. -/
def statusZ (z : Fin 4) (l : Live) : TxFrame :=
  let zone := l.planner.zones.get z
  { ident := statusZIdent l.port.unit z
    data := bytesLE (packBits
      [ (16, code16 zone.demand), (10, zone.blend), (10, zone.level), (10, zone.outlet), (1, flag zone.openLoop),
        (1, flag zone.spanLow), (1, flag (l.budget.capped.get z)), (1, flag zone.defrostFlag) ]) 7 }

/-- The spacing hold after a STATUS_E, in milliseconds (R175). -/
def spacing : Nat := 100

/-- A STATUS_E is placed: the owed mark is cleared and the spacing hold set (R175). -/
def placeStatusE (l : Live) : Live :=
  let l := placeFrame statusEPlace (statusE l) l
  { l with events := { l.events with owed := false, spacingHold := some (l.now + spacing) } }

/-- A newly set, unmasked latch asks for a STATUS_E (R175); in WATCH none is placed and it is owed (R177). -/
def askStatusE (l : Live) : Live :=
  if l.part.state = .watch ∨ l.events.spacingHold.isSome then { l with events := { l.events with owed := true } }
  else placeStatusE l

/-- A block latches a kind with a parameter (R174, R175). -/
def latch (k : Kind) (parameter : Nat) (l : Live) : Live :=
  let newly := (l.events.latched.get k).isNone
  let l := { l with events := { l.events with latched := l.events.latched.set k (some parameter) } }
  if newly ∧ l.events.mask.getLsbD k.val = false then askStatusE l else l

/-- The four zones. -/
def allZones : List (Fin 4) := List.finRange 4

/-- The periodic frames: STATUS_A, STATUS_E, and one STATUS_Z for each zone marked planned (R177). -/
def placePeriodic (l : Live) : Live :=
  let l := placeFrame statusAPlace (statusA l) l
  let l := placeStatusE l
  allZones.foldl (fun l z =>
    if (l.planner.zones.get z).planned then placeFrame (statusZPlace z) (statusZ z l) l else l) l

/-- The latches of a set of kinds are cleared (R174). -/
def clearLatches (kinds : BitVec 32) (l : Live) : Live :=
  { l with events := { l.events with
      latched := Vector.ofFn fun k => if kinds.getLsbD k.val then none else l.events.latched.get k } }

end Sys2Proof.Machine
end

