-- ==== Sys2Proof/Machine/Budget.lean ====
section
/-! DEFINITION. The load budget (chapter 6): the available budget, the account, the answers and the reports. -/

namespace Sys2Proof.Machine

/-! ### Roles and kinds (R112) -/

/-- DAMPER and VALVE roles are positioned; BLOWER and STAGE roles are set (R112). -/
def positioned (r : Role) : Bool := decide (r.val < 12)

def isBlower (r : Role) : Bool := decide (12 ≤ r.val ∧ r.val < 16)

def isStage (r : Role) : Bool := decide (16 ≤ r.val)

def intakeRole : Role := 0
def recircRole : Role := 1
def filterRole : Role := 2
def valveRole : Role := 3
def blendRole (z : Fin 4) : Role := ⟨4 + z.val, by omega⟩
def outletRole (z : Fin 4) : Role := ⟨8 + z.val, by omega⟩
def blowerRole (z : Fin 4) : Role := ⟨12 + z.val, by omega⟩
def stageRole (n : Fin 4) : Role := ⟨16 + n.val, by omega⟩

/-- The zone of a blower role. -/
def zoneOf (r : Role) : Fin 4 := ⟨(r.val - 12) % 4, Nat.mod_lt _ (by decide)⟩

/-! ### The available budget (R98) -/

/-- The voltage band of a presented BATTERY_VOLTS. -/
def voltageBand (img : Bank) (p : Presented) : Band :=
  if p.valid then
    (if (bandHi img : Int) ≤ p.value then .high
     else if (bandMid img : Int) ≤ p.value then .mid
     else if (bandLo img : Int) ≤ p.value then .low
     else .critical)
  else .unknown

/-- The percentage of base_budget that a band gives. -/
def Band.percent : Band → Nat
  | .high => 100
  | .mid => 75
  | .low => 50
  | .critical => 25
  | .unknown => 50

def availFor (img : Bank) (b : Band) : Nat := baseBudget img * b.percent / 100

/-- The slot of BATTERY_VOLTS (R33). -/
def batterySlot : Fin 32 := 12

/-- The band and avail worked out again (R98). -/
def workOutAvail (img : Bank) (l : Live) : Live :=
  let band := voltageBand img (seen img l batterySlot)
  { l with budget := { l.budget with band := band, avail := availFor img band } }

/-! ### Loads (R99) -/

/-- The load of a blower or stage at a level. -/
def loadOf (img : Bank) (r : Role) (level : Nat) : Nat :=
  if isBlower r then ceilDiv (level * blowerRated img (zoneOf r)) 1000
  else if isStage r then (if level = 0 then 0 else stageCurrent img)
  else 0

def Budget.consumer (b : Budget) (r : Role) : Consumer := b.consumers.get r

def Budget.onConsumer (r : Role) (f : Consumer → Consumer) (b : Budget) : Budget :=
  { b with consumers := updateAt b.consumers r f }

/-! ### Admission (R100 to R102) -/

inductive Answer where
  | admitted
  | capped (level : Nat)
  | held
  | wait
deriving DecidableEq, Repr

/-- A MOVE or HOME is put to the budget (R100). An actuator still counted from an earlier issue is admitted without
adding load. -/
def askMotion (img : Bank) (r : Role) (b : Budget) : Answer × Budget :=
  let c := b.consumer r
  if c.commitment ≠ 0 ∨ c.commitment = motionCurrent img then (.admitted, b)
  else if b.committed + motionCurrent img ≤ b.avail then
    (.admitted, b.onConsumer r fun c => { c with commitment := motionCurrent img })
  else (.wait, b)

/-- The record of a consumer whose SET to a level is admitted: the greater of the two loads is counted (R99). -/
def admitLevel (img : Bank) (r : Role) (level : Nat) (c : Consumer) : Consumer :=
  { c with transit := some level, commitment := max (loadOf img r c.accepted) (loadOf img r level) }

/-- A SET of a stage is put to the budget (R101). -/
def askStage (img : Bank) (r : Role) (level : Nat) (b : Budget) : Answer × Budget :=
  let c := b.consumer r
  if level ≠ 0 ∧ c.accepted = 0 ∧ b.avail < b.committed - c.commitment + stageCurrent img then (.wait, b)
  else (.admitted, b.onConsumer r (admitLevel img r level))

/-- The level a blower is capped to in a room (R102). -/
def cappedLevel (img : Bank) (r : Role) (level room : Nat) : Nat :=
  min level (room * 1000 / blowerRated img (zoneOf r))

/-- A SET of a blower is put to the budget (R102). -/
def askBlower (img : Bank) (r : Role) (level : Nat) (b : Budget) : Answer × Budget :=
  let c := b.consumer r
  let rest := b.committed - c.commitment
  if level ≤ c.accepted ∨ blowerRated img (zoneOf r) = 0 ∨ rest + loadOf img r level ≤ b.avail then
    (.admitted, b.onConsumer r (admitLevel img r level))
  else
    let lower := cappedLevel img r level (b.avail - rest)
    if c.accepted < lower then (.capped lower, b.onConsumer r (admitLevel img r lower))
    else (.held, b)

/-- A SET is put to the budget. -/
def askSet (img : Bank) (r : Role) (level : Nat) (b : Budget) : Answer × Budget :=
  if isBlower r then askBlower img r level b else askStage img r level b

/-! ### The CAPPED flags (R103) -/

/-- A zone's CAPPED flag is set, BLOWER_CAPPED latched when it was clear. -/
def setCapped (z : Fin 4) (l : Live) : Live :=
  if l.budget.capped.get z then l
  else latch kBlowerCapped z.val { l with budget := { l.budget with capped := l.budget.capped.set z true } }

def clearCapped (z : Fin 4) (l : Live) : Live :=
  { l with budget := { l.budget with capped := l.budget.capped.set z false } }

/-! ### Reports (R104, R108) -/

/-- A consumer's record changed by a report, and whether its commitment was lowered, which releases load (R104). -/
def report (r : Role) (f : Consumer → Consumer) (l : Live) : Live × Bool :=
  ({ l with budget := l.budget.onConsumer r f },
    decide ((f (l.budget.consumer r)).commitment < (l.budget.consumer r).commitment))

/-- A SET was accepted by the node: the accepted level becomes the level in transit (R104). Where R108 has removed the level
in transit from under an off SET of SETTLING still in flight, the accepted level stays: the model's choice, log entry 13. -/
def acceptedSet (img : Bank) (r : Role) (c : Consumer) : Consumer :=
  let level := c.transit.getD c.accepted
  { accepted := level, transit := none, commitment := loadOf img r level }

/-- A SET ended without acceptance (R104): its commitment is worked out from the ACTIVE image of that moment (R99). Where an
activation changed the figures while the SET was in flight, R107 and R110 speak of a commitment that is kept: that the new
figure is taken is the model's choice, log entry 44. -/
def endedSet (img : Bank) (r : Role) (c : Consumer) : Consumer :=
  { c with transit := none, commitment := loadOf img r c.accepted }

/-- A MOVE or HOME ended (R104). -/
def endedMotion (c : Consumer) : Consumer := { c with commitment := 0 }

/-- The consumer of an actuator that becomes OFFLINE or FAULTED (R108): a motor's commitment goes, a blower or stage
keeps the load of its accepted level. Its commitment keeps its figure where nothing is in transit (R110). -/
def unreachable (img : Bank) (r : Role) (c : Consumer) : Consumer :=
  if positioned r then { c with commitment := 0 }
  else if c.transit.isNone then c
  else endedSet img r c

/-- The consumer of an actuator that becomes UNCERTAIN or ABSENT (R108). -/
def unknownLevel (_ : Consumer) : Consumer := { accepted := 0, transit := none, commitment := 0 }

/-- The number of stages whose accepted level is on (R130). -/
def stagesOn (b : Budget) : Nat := (allRoles.filter fun r => isStage r && (b.consumer r).accepted == 1000).length

/-! ### The shed list (R105) -/

def Budget.shedEntry (b : Budget) (r : Role) : Option ShedEntry := b.shedList.find? fun e => e.role == r

/-- An entry of the shed list ends (R107). -/
def dropShed (r : Role) (l : Live) : Live :=
  { l with budget := { l.budget with shedList := l.budget.shedList.filter fun e => e.role != r } }

/-- The expected total: the committed load once every ordered reduction has been accepted (R105). -/
def expectedTotal (img : Bank) (b : Budget) : Int :=
  (b.committed : Int)
    - (b.shedList.map fun e => ((b.consumer e.role).commitment : Int) - (loadOf img e.role e.level : Int)).sum

end Sys2Proof.Machine
end

