-- ==== Sys2Proof/Machine/Arbiter.lean ====
section
/-! DEFINITION. The cab link's frames, request list and arbiter (sections 8.1 and 8.4), and the directory's lookups. -/

namespace Sys2Proof.Machine

/-! ### Requests on the wire (R139, R188) -/

def LinkCommand.code : LinkCommand → Nat
  | .rollcall _ => 0x01
  | .bind _ _ => 0x02
  | .move _ _ => 0x10
  | .home _ => 0x11
  | .set _ _ => 0x12
  | .halt _ => 0x13
  | .query _ => 0x14
  | .read _ _ _ => 0x20
  | .write _ _ _ => 0x21

/-- A 16-bit field on the cab link, most significant byte first (chapter 12). -/
def linkBytes16 (n : Nat) : List Byte := [byte (n / 256 % 256), byte (n % 256)]

/-- A register address: 1 byte, or 2 for a node of kind 128 to 255 (R141). -/
def registerBytes (wide : Bool) (register : Nat) : List Byte :=
  if wide then linkBytes16 register else [byte register]

/-- The payload of a request (R188, R189). -/
def LinkCommand.payload : LinkCommand → List Byte
  | .rollcall reset => if reset then [0x5A] else []
  | .bind serial address => linkBytes16 (serial / 65536) ++ linkBytes16 (serial % 65536) ++ [byte address]
  | .move channel position => byte channel :: linkBytes16 position
  | .home channel => [byte channel]
  | .set channel level => byte channel :: linkBytes16 level
  | .halt channel => [byte channel]
  | .query channel => [byte channel]
  | .read wide register count => registerBytes wide register ++ [byte count]
  | .write wide register data => registerBytes wide register ++ byte data.length :: data

/-- The byte that makes a sum a multiple of 256 (R139). -/
def checkByte (sum : Nat) : Byte := byte ((256 - sum % 256) % 256)

/-- The bytes of a request after its start pattern: address, command, length, payload, check (R139). -/
def LinkRequest.wire (r : LinkRequest) : List Byte :=
  let body := [byte r.address, byte r.command.code, byte r.command.payload.length] ++ r.command.payload
  body ++ [checkByte (sumOf body)]

/-! ### Replies (R140, R141) -/

/-- How a transaction ends: as a success with what the node answered, or as a failure. -/
inductive Ending where
  | accept
  | position (p : Nat)
  | motion (p state : Nat)
  | data (bytes : List Byte)
  | busy
  | range
  | fault
  | failure
deriving DecidableEq, Repr

/-- The reply's check is correct and its length field tells its payload (R139, R140). -/
def replySound (r : LinkReply) : Bool :=
  r.payload.length == r.length.toNat &&
    (r.status.toNat + r.length.toNat + sumOf r.payload + r.check.toNat) % 256 == 0

/-- A position in a reply payload, most significant byte first. -/
def replyPosition (payload : List Byte) : Nat := 256 * (byteAt payload 0).toNat + (byteAt payload 1).toNat

/-- A refusal: BUSY, RANGE or FAULT with no payload (R141). -/
def refusalEnding (r : LinkReply) : Ending :=
  if r.length.toNat ≠ 0 then .failure
  else if r.status.toNat = 1 then .busy
  else if r.status.toNat = 2 then .range
  else if r.status.toNat = 3 then .fault
  else .failure

/-- What a reply to a command amounts to (R140, R141, R188). A motion state that R188 does not list is a failure. -/
def replyEnding (c : LinkCommand) (r : LinkReply) : Ending :=
  if !replySound r then .failure
  else match c with
    | .rollcall _ => .failure
    | .bind _ _ => if r.status.toNat = 0 ∧ r.length.toNat = 0 then .accept else .failure
    | .move _ _ | .home _ | .set _ _ | .write _ _ _ =>
      if r.status.toNat = 0 ∧ r.length.toNat = 0 then .accept else refusalEnding r
    | .halt _ =>
      if r.status.toNat = 0 then
        (if r.length.toNat = 2 ∧ replyPosition r.payload ≤ 1000 then .position (replyPosition r.payload) else .failure)
      else refusalEnding r
    | .query _ =>
      if r.status.toNat = 0 then
        (if r.length.toNat = 3 ∧ replyPosition r.payload ≤ 1000 ∧ (byteAt r.payload 2).toNat ≤ 2 then
          .motion (replyPosition r.payload) (byteAt r.payload 2).toNat
         else .failure)
      else refusalEnding r
    | .read _ _ count =>
      if r.status.toNat = 0 then (if r.length.toNat = count then .data r.payload else .failure)
      else refusalEnding r

/-! ### The directory's lookups -/

def Link.nodeAt (k : Link) (address : Nat) : Option Node := k.directory.find? fun n => n.address == address

def Link.nodeOf (k : Link) (serial : Nat) : Option Node := k.directory.find? fun n => n.serial == serial

/-- The entry at an address changed. -/
def Link.onNode (address : Nat) (f : Node → Node) (k : Link) : Link :=
  { k with directory := k.directory.map fun n => if n.address = address then f n else n }

/-- The state of the node that a role's binding names, if the directory holds it. -/
def nodeStateOf (img : Bank) (l : Live) (r : Role) : Option NodeState :=
  if isBound img r then (l.link.nodeOf (binding img r).serial).map (·.state) else none

/-- The address of the node that a role's binding names. -/
def nodeAddress (img : Bank) (l : Live) (r : Role) : Option Nat :=
  if isBound img r then (l.link.nodeOf (binding img r).serial).map (·.address) else none

/-! ### The request list and the arbiter (R150, R151) -/

/-- The arbiter's order of the classes. -/
def LinkClass.order : LinkClass → Nat
  | .urgent => 0
  | .window => 1
  | .poll => 2
  | .normal => 3
  | .probe => 4
  | .rollcall => 5

/-- A request goes before another: by class, then by the time it joined, then by address (R151). -/
def LinkRequest.before (a b : LinkRequest) : Bool :=
  decide (a.cls.order < b.cls.order) ||
    (a.cls.order == b.cls.order &&
      (decide (a.joined < b.joined) || (a.joined == b.joined && decide (a.address < b.address))))

/-- The request the arbiter chooses: the first of the list that none goes before. -/
def chooseRequest : List LinkRequest → Option LinkRequest
  | [] => none
  | r :: rest =>
    match chooseRequest rest with
    | none => some r
    | some q => if q.before r then some q else some r

/-- The arbiter takes a request while the link is RUNNING and no transaction is in progress (R151). -/
def arbitrate (l : Live) : Live :=
  if l.link.state = .running ∧ l.link.onLink.isNone then
    match chooseRequest l.link.requests with
    | none => l
    | some r =>
      { l with link := { l.link with onLink := some r, requests := l.link.requests.erase r, sent := false,
                                     replyWindow := none } }
  else l

/-- A request joins the list, and the arbiter looks at it at once. -/
def placeRequest (owner : LinkOwner) (address : Nat) (command : LinkCommand) (cls : LinkClass) (l : Live) : Live :=
  arbitrate { l with link := { l.link with
    requests := l.link.requests ++
      [{ owner := owner, address := address, command := command, cls := cls, joined := l.now }] } }

/-- The requests of the list that satisfy a test are withdrawn or removed. -/
def withdraw (test : LinkRequest → Bool) (l : Live) : Live :=
  { l with link := { l.link with requests := l.link.requests.filter fun r => !test r } }

def LinkOwner.isItemOf (r : Role) : LinkOwner → Bool
  | .item q _ => q == r
  | _ => false

/-- An actuator's waiting request is withdrawn. -/
def withdrawRole (r : Role) (l : Live) : Live := withdraw (fun q => q.owner.isItemOf r) l

/-- A probe of an entry waits in the list. -/
def Link.probeWaits (k : Link) (address : Nat) : Bool :=
  k.requests.any fun q => q.owner == .probe && q.address == address

/-- A probe of an entry is placed unless one waits (R145). -/
def placeProbe (address : Nat) (l : Live) : Live :=
  if l.link.probeWaits address then l else placeRequest .probe address (.query 0) .probe l

/-- The entries in a state, by rising address. -/
def Link.addressesIn (k : Link) (st : NodeState) : List Nat :=
  (List.range 17).filter fun a => k.directory.any fun n => n.address == a && n.state == st

/-- Probes for every entry in a state, lowest address first. -/
def placeProbes (st : NodeState) (l : Live) : Live := (l.link.addressesIn st).foldl (fun l a => placeProbe a l) l

end Sys2Proof.Machine
end

