-- ==== Sys2Proof/Machine/Sequencer.lean ====
section
/-! DEFINITION. The actuator sequencer (chapter 7): records, collections, target arrival, the offer of the queue,
suspension and resume, issue, and shed orders. -/

namespace Sys2Proof.Machine

/-! ### Records and collections (R115 to R117) -/

def actuator (l : Live) (r : Role) : Actuator := l.sequencer.actuators.get r

def onActuator (r : Role) (f : Actuator → Actuator) (l : Live) : Live :=
  { l with sequencer := { l.sequencer with actuators := updateAt l.sequencer.actuators r f } }

def setActuatorState (r : Role) (st : ActuatorState) (l : Live) : Live := onActuator r (fun a => { a with state := st }) l

def setPending (r : Role) (t : Option Target) (l : Live) : Live :=
  onActuator r (fun a => { a with pendingTarget := t }) l

/-- An actuator's entry in the Move Queue. -/
def queueEntry (l : Live) (r : Role) : Option QueueEntry := l.sequencer.queue.find? fun e => e.role == r

/-- An actuator's item in the In-Flight set. -/
def itemOf (l : Live) (r : Role) : Option Item := l.sequencer.inFlight.find? fun i => i.role == r

def setQueue (q : List QueueEntry) (l : Live) : Live := { l with sequencer := { l.sequencer with queue := q } }

def setInFlight (q : List Item) (l : Live) : Live := { l with sequencer := { l.sequencer with inFlight := q } }

def setSuspended (m : Option Suspended) (l : Live) : Live :=
  { l with sequencer := { l.sequencer with suspended := m } }

def setArmed (b : Bool) (l : Live) : Live := { l with sequencer := { l.sequencer with armed := b } }

def removeEntry (r : Role) (l : Live) : Live := setQueue (l.sequencer.queue.filter fun e => e.role != r) l

def removeItem (r : Role) (l : Live) : Live := setInFlight (l.sequencer.inFlight.filter fun i => i.role != r) l

def updateItem (r : Role) (f : Item → Item) (l : Live) : Live :=
  setInFlight (l.sequencer.inFlight.map fun i => if i.role = r then f i else i) l

def updateEntry (r : Role) (f : QueueEntry → QueueEntry) (l : Live) : Live :=
  setQueue (l.sequencer.queue.map fun e => if e.role = r then f e else e) l

/-- An entry at the tail of its class: every URGENT entry stands ahead of every NORMAL one (R117). -/
def tailInsert (e : QueueEntry) (q : List QueueEntry) : List QueueEntry :=
  if e.urgent then (q.filter fun x => x.urgent) ++ e :: q.filter fun x => !x.urgent else q ++ [e]

/-- An entry at the head of its class. -/
def headInsert (e : QueueEntry) (q : List QueueEntry) : List QueueEntry :=
  if e.urgent then e :: q else (q.filter fun x => x.urgent) ++ e :: q.filter fun x => !x.urgent

/-- An actuator's work stands in one of the three collections (R117). -/
def hasWork (l : Live) (r : Role) : Bool :=
  (queueEntry l r).isSome || (itemOf l r).isSome || l.sequencer.suspended.any fun m => m.role == r

/-- An actuator's work leaves the collection it is in: each rule that places it in one removes it from the one it left, at
the same moment (R117). -/
def leaveWork (r : Role) (l : Live) : Live :=
  let l := removeItem r (removeEntry r l)
  if l.sequencer.suspended.any fun m => m.role == r then setSuspended none l else l

/-- An entry is placed at the tail of its class. -/
def placeTail (e : QueueEntry) (l : Live) : Live :=
  let l := leaveWork e.role l
  setQueue (tailInsert e l.sequencer.queue) l

/-- An entry is placed at the head of its class. -/
def placeHead (e : QueueEntry) (l : Live) : Live :=
  let l := leaveWork e.role l
  setQueue (headInsert e l.sequencer.queue) l

/-- The hold-off an entry carries when it joins the queue: to the actuator's retry time, where that lies ahead (R122). -/
def joinHold (l : Live) (r : Role) (old : Timer) : Timer :=
  match (actuator l r).retryTime with
  | some t => if l.now < t then some t else old
  | none => old

/-- An entry joins the tail of its class. -/
def joinTail (e : QueueEntry) (l : Live) : Live := placeTail { e with holdOff := joinHold l e.role e.holdOff } l

/-- The retry time that a BUSY refusal or a failure sets (R122). -/
def setRetry (img : Bank) (r : Role) (l : Live) : Live :=
  onActuator r (fun a => { a with retryTime := some (l.now + pollInterval img) }) l

/-- The work that takes an actuator of a role to a target: a MOVE or a SET. -/
def workKind (r : Role) : WorkKind := if positioned r then .move else .set

def newEntry (r : Role) (kind : WorkKind) (t : Target) (shed : Bool) : QueueEntry :=
  { role := r, kind := kind, level := t.level, urgent := t.urgent, holdOff := none, shed := shed }

/-! ### Positions in the node's sense (R113) -/

/-- A position or level in the node's sense, and back: reversed for a reversed DAMPER or VALVE. -/
def nodeSense (img : Bank) (r : Role) (p : Nat) : Nat :=
  if positioned r ∧ (binding img r).reverse then 1000 - p else p

/-! ### Issue (R121) -/

def commandFor (img : Bank) (r : Role) (kind : WorkKind) (level : Nat) : LinkCommand :=
  match kind with
  | .move => .move (binding img r).channel (nodeSense img r level)
  | .home => .home (binding img r).channel
  | .set => .set (binding img r).channel level

/-- The link class of issued work (R121). -/
def issueClass (kind : WorkKind) (urgent : Bool) : LinkClass :=
  match kind with
  | .set => .normal
  | _ => if urgent then .urgent else .normal

/-- The state of an actuator whose work is issued (R121). -/
def issuedState (kind : WorkKind) (st : ActuatorState) : ActuatorState :=
  match kind with
  | .move => .moving
  | .home => .homing
  | .set =>
    match st with
    | .idle | .queued => .moving
    | st => st

/-- Work joins the In-Flight set in phase ISSUING, and its link request is made. -/
def startItem (img : Bank) (r : Role) (kind : WorkKind) (level asked : Nat) (urgent shed : Bool) (address : Nat)
    (l : Live) : Live :=
  let l := leaveWork r l
  let id := l.sequencer.nextId
  let item : Item :=
    { role := r, id := id, kind := kind, level := level, asked := asked, urgent := urgent, phase := .issuing,
      shed := shed, shedOrder := none, issued := l.now, deadline := none, poll := none }
  let l := { l with sequencer := { l.sequencer with inFlight := l.sequencer.inFlight ++ [item], nextId := id + 1 } }
  let l := onActuator r (fun a => { a with state := issuedState kind a.state }) l
  placeRequest (.item r id) address (commandFor img r kind level) (issueClass kind urgent) l

/-- An admitted entry leaves the Move Queue and is issued at a level. -/
def issue (img : Bank) (e : QueueEntry) (level address : Nat) (l : Live) : Live :=
  startItem img e.role e.kind level e.level e.urgent e.shed address l

/-! ### Halts (R119, R123, R127) -/

/-- A HALT of an actuator's item is requested. -/
def placeHalt (img : Bank) (it : Item) (cls : LinkClass) (l : Live) : Live :=
  placeRequest (.item it.role it.id) ((nodeAddress img l it.role).getD 0) (.halt (binding img it.role).channel) cls l

/-- The link class of a HALT by its reason (R121). -/
def haltClass : HaltReason → LinkClass
  | .deadline => .poll
  | _ => .urgent

/-- A RUNNING item becomes HALTING: poll timer and deadline stopped, a waiting poll withdrawn, the HALT requested. -/
def haltItem (img : Bank) (why : HaltReason) (it : Item) (l : Live) : Live :=
  let l := updateItem it.role (fun i => { i with phase := .halting why, poll := none, deadline := none }) l
  placeHalt img it (haltClass why) (withdrawRole it.role l)

/-! ### The offer of the queue (R120, R123, R125) -/

/-- Work for an EXCLUDED node, to which no request is sent (R148), ends without a reply: its entry returns to the head of
its class with its hold-off (R122, R134). -/
def returnUnsent (img : Bank) (e : QueueEntry) (l : Live) : Live :=
  placeHead { e with holdOff := some (l.now + pollInterval img) } (setRetry img e.role l)

/-- One entry is put to the budget: ADMITTED and CAPPED work is issued, and the flag says that it waits (WAIT, HELD). An
entry whose node has no directory entry is passed over, and one whose node is EXCLUDED is not sent (log entries 13, 16). -/
def putEntry (img : Bank) (e : QueueEntry) (l : Live) : Live × Bool :=
  match nodeAddress img l e.role with
  | none => (l, false)
  | some address =>
    if nodeStateOf img l e.role = some .excluded then (returnUnsent img e l, false)
    else match e.kind with
    | .set =>
      let (answer, b) := askSet img e.role e.level l.budget
      let l := { l with budget := b }
      match answer with
      | .admitted =>
        let l := if isBlower e.role ∧ e.shed = false then clearCapped (zoneOf e.role) l else l
        (issue img e e.level address l, false)
      | .capped level => (issue img e level address (setCapped (zoneOf e.role) l), false)
      | .held => (setCapped (zoneOf e.role) l, true)
      | .wait => (l, true)
    | _ =>
      let (answer, b) := askMotion img e.role l.budget
      let l := { l with budget := b }
      if answer = .admitted then (issue img e e.level address l, false) else (l, true)

/-- Entries are put to the budget in order; those with a running hold-off, and those a test passes over, are not. The
flag says whether any waits. -/
def putEntries (img : Bank) (skip : QueueEntry → Bool) : List QueueEntry → Live → Live × Bool
  | [], l => (l, false)
  | e :: rest, l =>
    if e.holdOff.isSome ∨ skip e then putEntries img skip rest l
    else
      let (l, waits) := putEntry img e l
      let (l, others) := putEntries img skip rest l
      (l, waits || others)

/-- An item that may be halted for suspension (R123). -/
def suspendable (l : Live) (i : Item) : Bool :=
  i.kind == .move && !i.urgent && i.phase == .running &&
    (match (actuator l i.role).guardTime with
      | none => true
      | some t => decide (t ≤ l.now))

/-- The item with the latest issue time; of two issued together, the first of the list. -/
def latestIssued : List Item → Option Item
  | [] => none
  | i :: rest =>
    match latestIssued rest with
    | none => some i
    | some j => if i.issued < j.issued then some j else some i

/-- The suspended place is taken: it holds a move, or a halted move is on its way to it. -/
def placeTaken (l : Live) : Bool :=
  l.sequencer.suspended.isSome || l.sequencer.inFlight.any fun i => i.phase == .halting .suspend

/-- Suspension is tried (R123). -/
def trySuspend (img : Bank) (l : Live) : Live :=
  if l.sequencer.armed then
    let l := setArmed false l
    if placeTaken l then l
    else
      match latestIssued (l.sequencer.inFlight.filter (suspendable l)) with
      | none => l
      | some i => haltItem img .suspend i l
  else l

/-- The time after its admission for which a resumed move is guarded (R125). -/
def resumeGuard : Nat := 500

/-- The resume of the suspended move is put to the budget; the flag says that it waits (R125). -/
def offerResume (img : Bank) (l : Live) : Live × Bool :=
  match l.sequencer.suspended with
  | none => (l, false)
  | some m =>
    match nodeAddress img l m.role with
    | none => (l, true)
    | some address =>
      let (answer, b) := askMotion img m.role l.budget
      let l := { l with budget := b }
      if answer = .admitted then
        let l := onActuator m.role (fun a => { a with guardTime := some (l.now + resumeGuard) }) (setSuspended none l)
        (startItem img m.role .move m.level m.level false false address l, false)
      else (l, true)

/-- The queue is offered whole (R120). -/
def offerNow (img : Bank) (l : Live) : Live :=
  let (l, urgentWaits) := putEntries img (fun _ => false) (l.sequencer.queue.filter fun e => e.urgent) l
  if urgentWaits then trySuspend img l
  else
    let (l, resumeWaits) := if l.part.state = .run then offerResume img l else (l, false)
    (putEntries img (fun e => resumeWaits && e.kind != .set) (l.sequencer.queue.filter fun e => !e.urgent) l).1

/-- An offer takes place in RUN and SETTLING (R120). -/
def offer (img : Bank) (l : Live) : Live :=
  if l.part.state = .run ∨ l.part.state = .settling then offerNow img l else l

/-- A room notice from the budget arms suspension and offers the queue (R98, R104, R120, R123). -/
def roomNotice (img : Bank) (l : Live) : Live := offer img (setArmed true l)

def afterRelease (img : Bank) (released : Bool) (l : Live) : Live := if released then roomNotice img l else l

/-- The offer after a change of the queue or of the suspended place: that of the room notice where load was released
(R120). -/
def offerAfter (img : Bank) (released : Bool) (l : Live) : Live := if released then roomNotice img l else offer img l

/-- The end of a MOVE's or HOME's commitment is reported (R130). -/
def releaseMotion (img : Bank) (r : Role) (l : Live) : Live :=
  let (l, released) := report r endedMotion l
  afterRelease img released l

/-! ### Target arrival (R118, R119) -/

/-- The pending target after another one arrives: an URGENT class replaces a NORMAL one and is kept by it (R119). -/
def mergePending (old : Option Target) (t : Target) : Target :=
  { level := t.level, urgent := t.urgent || old.any (·.urgent) }

/-- R118, row IDLE. In SETTLING the work is not placed (R134). -/
def arrivalIdle (img : Bank) (r : Role) (t : Target) (l : Live) : Live :=
  if within (binding img r).deadband (actuator l r).position t.level ∨ l.part.state = .settling then l
  else setActuatorState r .queued (joinTail (newEntry r (workKind r) t false) l)

/-- The level of a waiting entry is replaced where it stands, and its class raised (R118). -/
def replaceLevel (e : QueueEntry) (t : Target) (l : Live) : Live :=
  if t.urgent ∧ e.urgent = false then placeTail { e with level := t.level, urgent := true } l
  else updateEntry e.role (fun x => { x with level := t.level }) l

/-- R118, rows QUEUED. A removed MOVE or HOME entry that held commitment is reported (R130); a SET entry holds none. -/
def arrivalQueued (img : Bank) (r : Role) (t : Target) (e : QueueEntry) (l : Live) : Live :=
  if e.shed then setPending r (some t) l
  else if within (binding img r).deadband (actuator l r).position t.level then
    let l := setActuatorState r .idle (removeEntry r l)
    if e.kind = .set then l else releaseMotion img r l
  else replaceLevel e t l

/-- R118, rows UNCERTAIN. -/
def arrivalUncertain (r : Role) (t : Target) (l : Live) : Live :=
  match queueEntry l r with
  | none =>
    if positioned r then setPending r (some t) (joinTail (newEntry r .home t false) l)
    else joinTail (newEntry r .set t false) l
  | some e =>
    if positioned r then
      let l := setPending r (some t) l
      if t.urgent ∧ e.urgent = false then placeTail { e with urgent := true } l else l
    else replaceLevel e t l

/-- R118, row SUSPENDED. -/
def arrivalSuspended (img : Bank) (r : Role) (t : Target) (l : Live) : Live :=
  match l.sequencer.suspended with
  | none => l
  | some m =>
    if within (binding img r).deadband m.level t.level then l
    else arrivalIdle img r t (setSuspended none (setActuatorState r .idle l))

/-- R119: the target of an actuator whose work is in flight. -/
def arrivalInFlight (img : Bank) (r : Role) (t : Target) (it : Item) (l : Live) : Live :=
  let old := (actuator l r).pendingTarget
  match it.kind, it.phase with
  | .home, _ | .set, _ => setPending r (some (mergePending old t)) l
  | .move, .issuing => setPending r (some t) l
  | .move, .running =>
    if within (binding img r).deadband it.level t.level then
      setPending r none
        (updateItem r (fun i => { i with level := t.level, asked := t.level, urgent := i.urgent || t.urgent }) l)
    else if t.urgent then haltItem img .supersede it (setPending r (some t) l)
    else setPending r (some t) l
  | .move, .halting .suspend =>
    let l := setPending r (some t) l
    if t.urgent then updateItem r (fun i => { i with phase := .halting .supersede }) l else l
  | .move, .halting _ => setPending r (some (mergePending old t)) l

/-- What follows the arrival of a target, by the actuator's state or the work in flight. -/
def arrivalBody (img : Bank) (r : Role) (t : Target) (l : Live) : Live :=
  match itemOf l r with
  | some it => arrivalInFlight img r t it l
  | none =>
    match (actuator l r).state with
    | .idle => arrivalIdle img r t l
    | .uncertain => arrivalUncertain r t l
    | .queued =>
      match queueEntry l r with
      | some e => arrivalQueued img r t e l
      | none => l
    | .suspended => arrivalSuspended img r t l
    | _ => l

/-- A target arrives for a role: it becomes the actuator's target, is handled, and the queue is offered (R118). -/
def targetArrival (img : Bank) (r : Role) (t : Target) (l : Live) : Live :=
  let l := onActuator r (fun a => { a with target := some t }) l
  offer img (arrivalBody img r t l)

/-! ### Shed orders (R106, R129) -/

/-- The sequencer takes a shed order for a BLOWER or STAGE (R129). -/
def shedOrder (img : Bank) (r : Role) (level : Nat) (l : Live) : Live :=
  match itemOf l r with
  | some _ => updateItem r (fun i => { i with shedOrder := some (min level (i.shedOrder.getD level)) }) l
  | none =>
    match queueEntry l r with
    | some e => offer img (joinTail { e with level := min level e.level, urgent := true, shed := true } l)
    | none =>
      if (actuator l r).state = .idle then
        offer img (setActuatorState r .queued (joinTail (newEntry r .set { level := level, urgent := true } true) l))
      else l

/-- A consumer that shedding passes over (R106). In WATCH, where the Move Queue is empty (R182), no actuator takes a SET and
every consumer is passed over: the model's reading, log entry 40. -/
def passedOver (l : Live) (r : Role) : Bool :=
  l.part.state == .watch || (l.budget.shedEntry r).isSome ||
    (match (actuator l r).state with
      | .offline | .faulted | .absent | .uncertain => true
      | _ => false) ||
    (match (l.budget.consumer r).transit with
      | some t => decide ((l.budget.consumer r).accepted < t)
      | none => false)

/-- The order in which shedding takes consumers: STAGE_4 to STAGE_1, then the blowers of zones 3 to 0 (R106). -/
def shedSequence : List Role := [19, 18, 17, 16, 15, 14, 13, 12]

/-- The floor level of a blower in shedding (R106). -/
def shedFloor (img : Bank) (l : Live) (z : Fin 4) : Nat :=
  if z = 0 ∧ l.planner.defrost then (profile img z).wmax else (profile img z).wmin

/-- The level to which shedding orders a consumer at an excess above 0, or none where it is not taken (R106). Where an
activation has lowered blower_rated_z under an older commitment (R110), the formula can give a blower its present level or
more, which R106 excludes: that the formula's level is ordered as it comes is the model's choice, log entry 41. -/
def shedLevel (img : Bank) (l : Live) (r : Role) (excess : Int) : Option Nat :=
  let load := (l.budget.consumer r).commitment
  if isStage r then (if load = stageCurrent img then some 0 else none)
  else
    let floorLevel := shedFloor img l (zoneOf r)
    let floorLoad := loadOf img r floorLevel
    if load ≤ floorLoad then none
    else if excess ≤ (load : Int) - floorLoad then
      some (if blowerRated img (zoneOf r) = 0 then Config.shedLevelUnrated load excess
            else ((load : Int) - excess).toNat * 1000 / blowerRated img (zoneOf r))
    else some floorLevel

/-- By how much an order lowers the excess (R106). -/
def shedRelief (img : Bank) (l : Live) (r : Role) (excess : Int) (level : Nat) : Int :=
  let load := (l.budget.consumer r).commitment
  let floorLoad := loadOf img r (shedFloor img l (zoneOf r))
  if isStage r then load
  else if excess ≤ (load : Int) - floorLoad then excess
  else (load : Int) - loadOf img r level

/-- One order: an entry at the tail of the shed list, the zone's CAPPED flag, and the order to the sequencer (R106). -/
def orderShed (img : Bank) (r : Role) (level : Nat) (l : Live) : Live :=
  let l := { l with budget := { l.budget with shedList := l.budget.shedList ++ [{ role := r, level := level }] } }
  let l := if isBlower r then setCapped (zoneOf r) l else l
  shedOrder img r level l

/-- The consumers taken in order until the excess is 0 or less; the flag says whether any order was made. -/
def shedFrom (img : Bank) : List Role → Int → Live → Live × Bool
  | [], _, l => (l, false)
  | r :: rest, excess, l =>
    if excess ≤ 0 then (l, false)
    else if passedOver l r then shedFrom img rest excess l
    else
      match shedLevel img l r excess with
      | none => shedFrom img rest excess l
      | some level =>
        let relief := shedRelief img l r excess level
        ((shedFrom img rest (excess - relief) (orderShed img r level l)).1, true)

/-- The test for shedding: while the expected total is above avail, consumers are ordered down, and LOAD_SHED is latched
where an order was made (R105, R106). -/
def testShed (img : Bank) (l : Live) : Live :=
  let excess := expectedTotal img l.budget - (l.budget.avail : Int)
  if excess ≤ 0 then l
  else
    let (l', any) := shedFrom img shedSequence excess l
    if any then latch kLoadShed l'.budget.avail l' else l'

end Sys2Proof.Machine
end

