-- ==== Sys2Proof/Machine/Motion.lean ====
section
/-! DEFINITION. The actuator sequencer (chapter 7): how work ends, node loss and return, faults, SETTLING, WATCH and
activation. -/

namespace Sys2Proof.Machine

/-! ### Pending targets (R126, R134) -/

/-- The target with which SETTLING commands a blower or stage off (R134). -/
def offTarget : Target := { level := 0, urgent := true }

/-- The pending target of an actuator whose work has ended is served (R126). In SETTLING only the level-0 target that
the entry to SETTLING set for a SET in flight is placed, as an URGENT off SET without a deadband test (R134). A pending
target behind work placed for the actuator since, a shed SET, stays (R129). -/
def serve (img : Bank) (r : Role) (l : Live) : Live :=
  match (actuator l r).pendingTarget with
  | none => l
  | some t =>
    if hasWork l r then l
    else if l.part.state = .run then
      match (actuator l r).state with
      | .idle => targetArrival img r t (setPending r none l)
      | _ => setPending r none l
    else if positioned r = false ∧ t = offTarget then
      let l := setPending r none l
      let l := if (actuator l r).state = .idle then setActuatorState r .queued l else l
      offer img (joinTail (newEntry r .set t false) l)
    else setPending r none l

/-! ### SET outcomes (R121, R122, R129) -/

/-- The shed order kept with a SET in flight is placed when that SET ends: an URGENT SET with the shed mark at the lower
of the ordered and the accepted level (R129). -/
def placeKeptOrder (it : Item) (l : Live) : Live :=
  match it.shedOrder with
  | none => l
  | some level =>
    let entry := newEntry it.role .set
      { level := min level (l.budget.consumer it.role).accepted, urgent := true } true
    setActuatorState it.role .queued (joinTail entry l)

/-- The state of a set actuator once its SET has ended. -/
def restState : ActuatorState → ActuatorState
  | .uncertain | .queued | .moving => .idle
  | st => st

/-- The node accepts a SET (R121). -/
def setAccepted (img : Bank) (it : Item) (l : Live) : Live :=
  let r := it.role
  let l := onActuator r (fun a => { a with position := it.level, state := restState a.state }) (removeItem r l)
  let (l, released) := report r (acceptedSet img r) l
  let l := if it.shed then dropShed r l else l
  let l := placeKeptOrder it l
  let l := if it.shedOrder.isSome then offer img l else l
  serve img r (afterRelease img released l)

/-- An item's entry returns to the head of its class with a hold-off of poll_interval (R122). The entry of a CAPPED SET
returns with the level asked for (log entry 12). -/
def returnEntry (img : Bank) (it : Item) (l : Live) : Live :=
  let e : QueueEntry :=
    { role := it.role, kind := it.kind, level := it.asked, urgent := it.urgent,
      holdOff := some (l.now + pollInterval img), shed := false }
  let l := placeHead e l
  if (actuator l it.role).state = .moving then setActuatorState it.role .queued l else l

/-- The pending target of returned work is taken as a target arrival at the waiting entry (R122). -/
def pendingAtEntry (img : Bank) (r : Role) (l : Live) : Live :=
  match (actuator l r).pendingTarget with
  | none => l
  | some t => arrivalBody img r t (setPending r none l)

/-- A SET ends BUSY or by a failure (R122, R129, R134). Where a shed order is kept with it, the shed entry takes the place of
the one that would return (log entry 36). In SETTLING the off target that is pending since the entry is placed at the end
of its SET, and an off SET without one returns with its hold-off (R134); an off SET that took the shed mark while it waited
does not return, as R122 and R129 say of that mark: the model's choice, log entry 13. -/
def setFailed (img : Bank) (it : Item) (l : Live) : Live :=
  let r := it.role
  let l := setRetry img r (removeItem r l)
  let rest (l : Live) : Live := onActuator r (fun a => { a with state := if a.state = .moving then .idle else a.state }) l
  let (l, released) := report r (endedSet img r) l
  if it.shed then
    serve img r (testShed img (afterRelease img released (dropShed r (rest l))))
  else if it.shedOrder.isSome then
    serve img r (afterRelease img released (offer img (placeKeptOrder it (rest l))))
  else if l.part.state = .run then
    offer img (afterRelease img released (pendingAtEntry img r (returnEntry img it l)))
  else if it.level = 0 ∧ (actuator l r).pendingTarget ≠ some offTarget then
    offer img (afterRelease img released (setPending r none (returnEntry img it l)))
  else serve img r (afterRelease img released (rest l))

/-- An actuator becomes FAULTED: ACTUATOR_FAULT is latched at the entry to the state (R122). -/
def becomeFaulted (r : Role) (why : FaultReason) (l : Live) : Live :=
  let was := (actuator l r).state
  let l := onActuator r (fun a => { a with state := .faulted, fault := some why }) l
  if was = .faulted then l else latch kActuatorFault r.val l

/-- A shed list entry whose consumer cannot be reached is removed, and the test for shedding made again (R107). -/
def dropShedAndTest (img : Bank) (r : Role) (l : Live) : Live :=
  if (l.budget.shedEntry r).isSome then testShed img (dropShed r l) else l

/-- A node refuses a SET with RANGE or FAULT (R122). -/
def setRefused (img : Bank) (why : FaultReason) (it : Item) (l : Live) : Live :=
  let r := it.role
  let l := becomeFaulted r why (removeItem r l)
  let (l, released) := report r (endedSet img r) l
  serve img r (afterRelease img released (dropShedAndTest img r l))

/-! ### MOVE and HOME outcomes (R121, R122, R127, R128) -/

/-- The deadline of accepted work, counted from now (R127). -/
def deadlineFor (img : Bank) (it : Item) (position : Nat) : Nat :=
  let stroke := (binding img it.role).travel * 100
  match it.kind with
  | .home => stroke * 3 / 2 + 1000
  | _ => ceilDiv (stroke * (max it.level position - min it.level position)) 1000 + 1000

/-- The node accepts a MOVE or HOME: the item runs, and a pending target that arrived during ISSUING is handled (R121). -/
def motionAccepted (img : Bank) (it : Item) (l : Live) : Live :=
  let r := it.role
  let l := updateItem r (fun i =>
    { i with phase := .running, issued := l.now, deadline := some (l.now + deadlineFor img it (actuator l r).position),
             poll := some (l.now + pollInterval img) }) l
  match it.kind, (actuator l r).pendingTarget with
  | .move, some t => arrivalBody img r t (setPending r none l)
  | _, _ => l

/-- A MOVE or HOME ends BUSY or by a failure (R122); in SETTLING it is not placed again (R134). -/
def motionFailed (img : Bank) (it : Item) (l : Live) : Live :=
  let r := it.role
  let l := setRetry img r (removeItem r l)
  if l.part.state = .run then
    let l := if it.kind = .home then setActuatorState r .uncertain l else l
    let l := returnEntry img it l
    offer img (if it.kind = .move then pendingAtEntry img r l else l)
  else
    let l := setPending r none (setActuatorState r (if it.kind = .home then .uncertain else .idle) l)
    releaseMotion img r l

/-- A MOVE or HOME ends with its actuator FAULTED (R122, R126, R127): its pending target stands as its target only, with
the class that the last target came with (log entry 36). -/
def motionFaulted (img : Bank) (why : FaultReason) (it : Item) (l : Live) : Live :=
  let r := it.role
  let l := withdrawRole r (removeItem r l)
  releaseMotion img r (setPending r none (becomeFaulted r why l))

/-- A MOVE or HOME ends with its actuator IDLE at a position, and its pending target is served (R124, R126, R128). -/
def motionEnded (img : Bank) (it : Item) (position : Nat) (settled : Bool) (l : Live) : Live :=
  let r := it.role
  let l := withdrawRole r (removeItem r l)
  let l := onActuator r (fun a =>
    { a with state := .idle, position := position, overruns := if settled then 0 else a.overruns }) l
  serve img r (releaseMotion img r l)

/-- A HOME that overran starts anew with the class of its pending target (R128); in SETTLING it is not placed (R134). -/
def homeAgain (img : Bank) (it : Item) (l : Live) : Live :=
  let r := it.role
  let l := setActuatorState r .uncertain (withdrawRole r (removeItem r l))
  if l.part.state = .run then
    let urgent := (actuator l r).pendingTarget.any (·.urgent)
    offer img (releaseMotion img r (joinTail (newEntry r .home { level := 0, urgent := urgent } false) l))
  else releaseMotion img r (setPending r none l)

/-- The number of overruns that makes an actuator FAULTED (R116, R127). -/
def maxOverruns : Nat := 3

/-- The HALT of an item that reached its deadline is answered: an overrun (R127). -/
def motionOverrun (img : Bank) (it : Item) (position : Nat) (l : Live) : Live :=
  let r := it.role
  let l := onActuator r (fun a => { a with position := position, overruns := countUp a.overruns maxOverruns }) l
  let l := latch kMoveOverrun r.val l
  if (actuator l r).overruns = maxOverruns then motionFaulted img .stall it l
  else if it.kind = .home then homeAgain img it l
  else motionEnded img it position false l

/-- A halted normal move goes to the suspended place (R124). -/
def motionSuspended (img : Bank) (it : Item) (position : Nat) (l : Live) : Live :=
  let r := it.role
  let l := onActuator r (fun a => { a with state := .suspended, position := position }) (leaveWork r l)
  let l := setSuspended (some { role := r, level := it.level, position := position }) l
  let l := match (actuator l r).pendingTarget with
    | none => l
    | some t => arrivalBody img r t (setPending r none l)
  let (l, released) := report r endedMotion l
  offerAfter img released l

/-- The node answers a HALT with a position in the role's sense (R124). -/
def haltAnswered (img : Bank) (it : Item) (position : Nat) (l : Live) : Live :=
  match it.phase with
  | .halting .deadline => motionOverrun img it position l
  | .halting .supersede => motionEnded img it position false l
  | .halting .suspend =>
    if within (binding img it.role).deadband position it.level ∨ l.sequencer.suspended.isSome then
      motionEnded img it position (within (binding img it.role).deadband position it.level) l
    else motionSuspended img it position l
  | _ => l

/-- A HALT that fails is requested again at once with the same class (R124). -/
def haltFailed (img : Bank) (it : Item) (l : Live) : Live :=
  match it.phase with
  | .halting .deadline => placeHalt img it .poll l
  | .halting _ => placeHalt img it .urgent l
  | _ => l

/-- The poll timer of a RUNNING item starts again when its QUERY ends (R126). -/
def restartPoll (img : Bank) (it : Item) (l : Live) : Live :=
  updateItem it.role (fun i => if i.phase = .running then { i with poll := some (l.now + pollInterval img) } else i) l

/-- A poll is answered with a position in the role's sense and a motion state: 0 MOVING, 1 SETTLED, 2 FAULT (R126). -/
def pollAnswered (img : Bank) (it : Item) (position motion : Nat) (l : Live) : Live :=
  let l := onActuator it.role (fun a => { a with position := position }) l
  if motion = 2 then motionFaulted img .nodeFault it l
  else if motion = 1 ∧ it.phase = .running then motionEnded img it position true l
  else restartPoll img it l

/-! ### What the link reports of an item (R121, R122) -/

/-- The outcome of an item's transaction. -/
def itemOutcome (img : Bank) (it : Item) (c : LinkCommand) (e : Ending) (l : Live) : Live :=
  match c, e with
  | .set _ _, .accept => setAccepted img it l
  | .set _ _, .range => setRefused img .refused it l
  | .set _ _, .fault => setRefused img .nodeFault it l
  | .set _ _, _ => setFailed img it l
  | .halt _, .position p => haltAnswered img it (nodeSense img it.role p) l
  | .halt _, _ => haltFailed img it l
  | .query _, .motion p m => pollAnswered img it (nodeSense img it.role p) m l
  | .query _, _ => restartPoll img it l
  | _, .accept => motionAccepted img it l
  | _, .range => motionFaulted img .refused it l
  | _, .fault => motionFaulted img .nodeFault it l
  | _, _ => motionFailed img it l

/-- An outcome reaches the item it names; it is discarded where that item no longer exists (R121). -/
def deliverToItem (img : Bank) (r : Role) (id : Nat) (c : LinkCommand) (e : Ending) (l : Live) : Live :=
  match itemOf l r with
  | some it => if it.id = id then itemOutcome img it c e l else l
  | none => l

/-! ### Nodes leaving and returning (R131, R132) -/

/-- An actuator's work is removed: its queue entry, its item with its waiting requests, its suspended move, and its
pending target (R131, R136). -/
def abandon (r : Role) (l : Live) : Live := setPending r none (leaveWork r (withdrawRole r l))

/-- Reports of several consumers, and whether any released load. -/
def reportAll (f : Role → Consumer → Consumer) : List Role → Live → Live × Bool
  | [], l => (l, false)
  | r :: rest, l =>
    let (l, one) := report r (f r) l
    let (l, others) := reportAll f rest l
    (l, one || others)

/-- Whether a shed list entry names one of the roles. -/
def anyShed (roles : List Role) (l : Live) : Bool := roles.any fun r => (l.budget.shedEntry r).isSome

/-- The shed list entries of roles end (R107). -/
def dropAllShed (roles : List Role) (l : Live) : Live := roles.foldl (fun l r => dropShed r l) l

/-- The budget learns of the new states of several actuators: their records change and their shed entries end with the
test made again; the flag says whether load was released (R107, R108, R130). -/
def tellStates (img : Bank) (f : Role → Consumer → Consumer) (roles : List Role) (l : Live) : Live × Bool :=
  let shed := anyShed roles l
  let (l, released) := reportAll f roles (dropAllShed roles l)
  (if shed then testShed img l else l, released)

/-- The budget learns of new states, and one room notice follows where load was released. -/
def reportStates (img : Bank) (f : Role → Consumer → Consumer) (roles : List Role) (l : Live) : Live :=
  let (l, released) := tellStates img f roles l
  afterRelease img released l

/-- The actuators whose node is lost, or excluded, or out of reach of a FAILED link (R131); the queue is offered after the
removals (R120). -/
def rolesGone (img : Bank) (roles : List Role) (l : Live) : Live :=
  let l := roles.foldl (fun l r =>
    onActuator r (fun a => { a with state := if a.state = .faulted then .faulted else .offline }) (abandon r l)) l
  let (l, released) := tellStates img (unreachable img) roles l
  offerAfter img released l

/-- The roles whose binding names a serial. -/
def rolesOf (img : Bank) (serial : Nat) : List Role :=
  allRoles.filter fun r => isBound img r && (binding img r).serial == serial

/-- A node is reported LOST or EXCLUDED (R131). -/
def nodeGone (img : Bank) (serial : Nat) (l : Live) : Live := rolesGone img (rolesOf img serial) l

/-- The link is reported FAILED (R131, R153). -/
def linkGone (img : Bank) (l : Live) : Live := rolesGone img (allRoles.filter (isBound img)) l

/-- An actuator that has become UNCERTAIN is served from its kept target in RUN (R132). -/
def serveKept (img : Bank) (r : Role) (l : Live) : Live :=
  if l.part.state = .run then
    match (actuator l r).target with
    | some t => targetArrival img r t l
    | none => l
  else l

/-- Actuators become UNCERTAIN and are served (R108, R132). Where there are several the spec names no order of service: the
order of the list, rising role numbers, is the model's choice, log entry 45. -/
def rolesUncertain (img : Bank) (roles : List Role) (l : Live) : Live :=
  let l := roles.foldl (fun l r => setActuatorState r .uncertain l) l
  let l := reportStates img (fun _ => unknownLevel) roles l
  roles.foldl (fun l r => serveKept img r l) l

/-- A node is reported BOUND: its ABSENT and OFFLINE actuators become UNCERTAIN (R132). -/
def nodeBound (img : Bank) (serial : Nat) (l : Live) : Live :=
  rolesUncertain img ((rolesOf img serial).filter fun r =>
    (actuator l r).state == .absent || (actuator l r).state == .offline) l

/-- CLEAR_FAULT of a role (R133). The off SET of SETTLING that waits or is in flight for it stays where it stands, whatever
the new state: the model's choice, log entry 13. -/
def clearFaultOf (img : Bank) (r : Role) (l : Live) : Live :=
  if (actuator l r).state = .faulted then
    let l := onActuator r (fun a => { a with fault := none, overruns := 0 }) l
    match nodeStateOf img l r with
    | some .bound => rolesUncertain img [r] l
    | some .lost | some .excluded =>
      reportStates img (unreachable img) [r] (setActuatorState r .offline l)
    | _ =>
      if l.link.state = .failed ∧ isBound img r then
        reportStates img (unreachable img) [r] (setActuatorState r .offline l)
      else
        let l := if isBlower r then clearCapped (zoneOf r) l else l
        reportStates img (fun _ => unknownLevel) [r] (setActuatorState r .absent l)
  else l

/-! ### SETTLING and WATCH (R134, R135) -/

/-- The roles of blowers and stages. -/
def setRoles : List Role := allRoles.filter fun r => !positioned r

/-- The Move Queue is emptied at the entry to SETTLING (R134, step 1). -/
def emptyQueue (l : Live) : Live :=
  let entries := l.sequencer.queue
  let l := setQueue [] l
  entries.foldl (fun l e =>
    let l := onActuator e.role (fun a =>
      { a with state := if a.state = .queued then .idle else a.state, pendingTarget := none }) l
    let l := if e.kind = .set then l else (report e.role endedMotion l).1
    if e.shed then dropShed e.role l else l) l

/-- A blower or stage is commanded off at the entry to SETTLING (R134, step 2). -/
def commandOff (r : Role) (l : Live) : Live :=
  if (itemOf l r).isSome then setPending r (some offTarget) l
  else
    match (actuator l r).state with
    | .idle => setActuatorState r .queued (joinTail (newEntry r .set offTarget false) l)
    | .uncertain | .faulted => joinTail (newEntry r .set offTarget false) l
    | _ => l

/-- A waiting MOVE or HOME entry holds commitment after a BUSY refusal or a failure (R122, R130). -/
def queueHolds (l : Live) : Bool :=
  l.sequencer.queue.any fun e => e.kind != .set && (l.budget.consumer e.role).commitment != 0

/-- A shed SET waits in the queue. -/
def queueSheds (l : Live) : Bool := l.sequencer.queue.any fun e => e.shed

/-- The sequencer at the entry to SETTLING (R134): where a shed SET was removed the budget tests for shedding again (R105,
R107), which the model takes before the offer of step 3 (log entry 13); suspension is armed where load was released. That the
off SETs of step 2 join in rising role numbers, BLOWER_0 to STAGE_4, is the model's choice, log entry 45. -/
def sequencerSettles (img : Bank) (l : Live) : Live :=
  let off := setRoles.foldl (fun l r => commandOff r l) (emptyQueue l)
  offerAfter img (queueHolds l) (if queueSheds l then testShed img off else off)

/-- The Move Queue and the In-Flight set are empty (R134). -/
def Sequencer.quiet (q : Sequencer) : Bool := q.queue.isEmpty && q.inFlight.isEmpty

/-- The sequencer at the entry to WATCH (R135). -/
def sequencerParks (l : Live) : Live :=
  let l := match l.sequencer.suspended with
    | none => l
    | some m => setSuspended none (onActuator m.role (fun a => { a with state := .idle, position := m.position }) l)
  allRoles.foldl (fun l r => setPending r none l) l

/-! ### Activation (R136) -/

/-- The roles whose eight binding bytes differ between two images. -/
def changedRoles (old img : Bank) : List Role :=
  allRoles.filter fun r => !sameBytes old img (bindingAddress r.val) 8

/-- The state of a role with a changed binding (R136). -/
def activatedState (img : Bank) (l : Live) (r : Role) : ActuatorState :=
  match nodeStateOf img l r with
  | some .bound => .uncertain
  | some .lost | some .excluded => .offline
  | _ => .absent

/-- The budget's record of a role with a changed binding (R108). -/
def activatedConsumer (img : Bank) (l : Live) (r : Role) (c : Consumer) : Consumer :=
  if activatedState img l r = .offline then unreachable img r c else unknownLevel c

/-- The sequencer takes a new image (R136). The changed roles that are UNCERTAIN are served in rising role numbers: the
model's choice, log entry 45. -/
def sequencerActivates (old img : Bank) (l : Live) : Live :=
  let roles := changedRoles old img
  let l := roles.foldl (fun l r =>
    let st := activatedState img l r
    let l := onActuator r (fun a => { a with state := st, overruns := 0, fault := none, guardTime := none }) (abandon r l)
    if isBlower r ∧ st = .absent then clearCapped (zoneOf r) l else l) l
  let (l, released) := reportAll (activatedConsumer img l) roles (dropAllShed roles l)
  let l := if roles.isEmpty then l else offerAfter img released l
  (roles.filter fun r => (actuator l r).state == .uncertain).foldl (fun l r => serveKept img r l) l

end Sys2Proof.Machine
end

