-- ==== Sys2Proof/Machine/AirSource.lean ====
section
/-! DEFINITION. The air source controller (chapter 4): the contamination index, the source modes, the condition timers,
entry boost, the shield floor and the sealed-cab conditions. -/

namespace Sys2Proof.Machine

/-! ### The slots it reads (R33) -/

def outTempSlot : Fin 32 := 0
def entrySlot : Fin 32 := 21
def recircSlot : Fin 32 := 23
def pressureSlot : Fin 32 := 29
def cabHazeSlot : Fin 32 := 31

/-- The slot of HAZE_1 to HAZE_4, numbered from 0. -/
def hazeSlot (k : Fin 4) : Fin 32 := ⟨17 + k.val, by omega⟩

/-- The four haze heads. -/
def allHeads : List (Fin 4) := List.finRange 4

/-! ### The contamination index (R52, R53) -/

/-- The contribution of a head whose slot is valid (R52). -/
def contribution (img : Bank) (l : Live) (k : Fin 4) : Option Nat :=
  let p := seen img l (hazeSlot k)
  if p.valid then some (min (p.value.toNat * hazeWeight img k / 256) 1000) else none

/-- The greatest of the contributions there are, none where there is none (R52). -/
def worst : List (Option Nat) → Option Nat
  | [] => none
  | none :: rest => worst rest
  | some c :: rest => some (max c ((worst rest).getD 0))

/-- The index X as the haze slots give it now (R52). -/
def indexNow (img : Bank) (l : Live) : Option Nat := worst (allHeads.map (contribution img l))

/-- X is formed again; CONTAM_UNKNOWN is latched where it goes from a number to UNKNOWN (R53). -/
def formIndex (img : Bank) (l : Live) : Live :=
  let x := indexNow img l
  let lost := l.air.index.isSome && x.isNone
  let l := { l with air := { l.air with index := x } }
  if lost then latch kContamUnknown l.air.mode.code l else l

/-! ### Modes and targets (R54) -/

/-- SHIELD and CLOSED: the cab is sealed. -/
def Mode.isSealed : Mode → Bool
  | .shield | .closed => true
  | _ => false

/-- The fresh fraction f (R54). -/
def freshFraction (img : Bank) (defrostCopy : Bool) (out : Presented) : Nat :=
  if defrostCopy then 1000
  else if out.valid ∧ (out.value < coldLimit img ∨ hotLimit img < out.value) then freshMin img
  else freshNominal img

/-- The targets of a mode: INTAKE, FILTER and RECIRC (R54). -/
def modeTargets (img : Bank) (mode : Mode) (f : Nat) : Nat × Nat × Nat :=
  match mode with
  | .fresh => (f, 0, 1000 - f)
  | .shield => (0, shieldFraction img, 1000 - shieldFraction img)
  | .closed => (0, 0, 1000)
  | .purge => (1000, 0, 0)

/-- The targets by the table of R54 for the mode that holds. -/
def Air.withTargets (img : Bank) (a : Air) : Air :=
  let t := modeTargets img a.mode a.fraction
  { a with intake := t.1, filter := t.2.1, recirc := t.2.2 }

/-- The three targets handed to the sequencer in RUN: INTAKE, FILTER, RECIRC, URGENT in SHIELD and CLOSED (R55). -/
def issueTargets (img : Bank) (l : Live) : Live :=
  if l.part.state = .run then
    let a := l.air
    let urgent := a.mode.isSealed
    let l := targetArrival img intakeRole { level := a.intake, urgent := urgent } l
    let l := targetArrival img filterRole { level := a.filter, urgent := urgent } l
    targetArrival img recircRole { level := a.recirc, urgent := urgent } l
  else l

/-- f worked out again in FRESH, and the targets issued where it changed (R54, R55, R67). -/
def reworkFraction (img : Bank) (l : Live) : Live :=
  if l.air.mode = .fresh then
    let f := freshFraction img l.air.defrostCopy (seen img l outTempSlot)
    if f = l.air.fraction then l
    else issueTargets img { l with air := Air.withTargets img { l.air with fraction := f } }
  else l

/-! ### Sealed-cab conditions (R66, R67) -/

/-- DEFOG_LIMITED: the defrost copy is active in a sealed cab (R67). -/
def defogCondition (a : Air) : Bool := a.defrostCopy && a.mode.isSealed

/-- CAB_INGRESS: CLOSED, and CAB_HAZE valid above ingress_limit (R66). -/
def ingressCondition (img : Bank) (haze : Presented) (a : Air) : Bool :=
  a.mode == .closed && haze.valid && decide ((ingressLimit img : Int) < haze.value)

/-- The two conditions brought up to date. -/
def Air.withConditions (img : Bank) (haze : Presented) (a : Air) : Air :=
  { a with defogLimited := defogCondition a, cabIngress := ingressCondition img haze a }

/-- The latches of the conditions that are true now and were false before (R66, R67). -/
def latchRisen (before : Air) (haze : Presented) (l : Live) : Live :=
  let l := if l.air.defogLimited && !before.defogLimited then latch kDefogLimited l.air.mode.code l else l
  if l.air.cabIngress && !before.cabIngress then latch kCabIngress haze.value.toNat l else l

/-- DEFOG_LIMITED tested at a defrost report: brought up to date, and latched if it rose (R67). -/
def testDefog (img : Bank) (l : Live) : Live :=
  latchRisen l.air (seen img l cabHazeSlot) { l with air := { l.air with defogLimited := defogCondition l.air } }

/-- CAB_INGRESS tested at a notice of CAB_HAZE: brought up to date, and latched if it rose (R66). -/
def testIngress (img : Bank) (l : Live) : Live :=
  let haze := seen img l cabHazeSlot
  latchRisen l.air haze { l with air := { l.air with cabIngress := ingressCondition img haze l.air } }

/-! ### Entries and changes of reason (R56) -/

/-- The latch parameter of MODE_CHANGE: the mode and, from bit 2, the reason (R185). -/
def modeParameter (a : Air) : Nat := a.mode.code + 4 * reasonCode a.reason

/-- The boost state at an entry to a mode (R64). -/
def boostAtEntry (old new : Mode) (entry : Presented) (b : Boost) : Boost :=
  if new.isSealed then (if old.isSealed then b else if entry.isTrue then .active else b) else .off

/-- The controller's state after an entry to a mode with a reason, at a time: timers cancelled, exposure, floor, purge
timers, fraction, targets, boost and conditions (R54, R56, R57, R62, R64 to R67). -/
def Air.entered (img : Bank) (now : Nat) (out entry haze : Presented) (mode : Mode) (reason : Option Reason)
    (a : Air) : Air :=
  let exposure := if mode = .fresh then false else a.exposure || (mode.isSealed && reason == some .haze)
  let inPurge := mode == .purge
  Air.withConditions img haze <| Air.withTargets img
    { a with
      mode := mode
      reason := reason
      exposure := exposure
      rise := none
      unknown := none
      fall := none
      purge := if inPurge then some (now + purgeTime img * 1000) else none
      purgeLimit := if inPurge then some (now + purgeLimitTime img * 1000) else none
      purgeElapsed := false
      fraction := if mode = .fresh then freshFraction img a.defrostCopy out else a.fraction
      shieldFloor := if mode = .shield then shieldFloorMin img else a.shieldFloor
      boost := boostAtEntry a.mode mode entry a.boost
      boostTail := if mode.isSealed then a.boostTail else none }

/-- An entry to a mode: the state, MODE_CHANGE and the conditions' latches, and the issue (R55, R56). -/
def enterMode (img : Bank) (mode : Mode) (reason : Option Reason) (l : Live) : Live :=
  let before := l.air
  let haze := seen img l cabHazeSlot
  let l := { l with air := before.entered img l.now (seen img l outTempSlot) (seen img l entrySlot) haze mode reason }
  issueTargets img (latchRisen before haze (latch kModeChange (modeParameter l.air) l))

/-- A change of reason with the mode unchanged: exposure set for HAZE, MODE_CHANGE latched, nothing issued (R56). -/
def changeReason (reason : Reason) (l : Live) : Live :=
  let l := { l with air := { l.air with
    reason := some reason
    exposure := l.air.exposure || reason == .haze
    fall := if reason = .haze then l.air.fall else none } }
  latch kModeChange (modeParameter l.air) l

/-! ### The mode machine (R57 to R62) -/

/-- What makes the mode machine evaluate (R57). -/
inductive Trigger where
  | notice
  | cabHaze
  | rise
  | unknown
  | fall
  | purge
  | purgeLimit
deriving DecidableEq, Repr

/-- X is a number at a threshold or above. -/
def Air.atLeast (a : Air) (t : Nat) : Bool := a.index.any fun x => decide (t ≤ x)

/-- X is a number below a threshold. -/
def Air.below (a : Air) (t : Nat) : Bool := a.index.any fun x => decide (x < t)

/-- CAB_HAZE allows the end of a purge: invalid, or at clear_below or under it (R62). -/
def purgeClean (img : Bank) (haze : Presented) : Bool := !haze.valid || decide (haze.value ≤ (clearBelow img : Int))

/-- The tests of FRESH (R58). -/
def testsFresh (img : Bank) (t : Trigger) (l : Live) : Live :=
  if l.air.atLeast (closeOn img) then enterMode img .closed (some .haze) l
  else if (seen img l recircSlot).isTrue then enterMode img .closed (some .manual) l
  else if t = .rise then enterMode img .shield (some .haze) l
  else if t = .unknown then enterMode img .shield (some .unknown) l
  else l

/-- The tests of SHIELD (R59). -/
def testsShield (img : Bank) (t : Trigger) (l : Live) : Live :=
  if l.air.atLeast (closeOn img) then enterMode img .closed (some .haze) l
  else if (seen img l recircSlot).isTrue then enterMode img .closed (some .manual) l
  else if l.air.atLeast (shieldOn img) ∧ (l.air.reason = some .unknown ∨ l.air.reason = some .start) then
    changeReason .haze l
  else if t = .fall then (if l.air.exposure then enterMode img .purge none l else enterMode img .fresh none l)
  else l

/-- The test of CLOSED with reason HAZE (R60). -/
def testsClosedHaze (img : Bank) (t : Trigger) (l : Live) : Live :=
  if t = .fall then
    (if (seen img l recircSlot).isTrue then changeReason .manual l else enterMode img .shield (some .haze) l)
  else l

/-- The tests of CLOSED with reason MANUAL (R61); a number at close_on or above is taken by the first of them. -/
def testsClosedManual (img : Bank) (l : Live) : Live :=
  if l.air.atLeast (closeOn img) then changeReason .haze l
  else if (seen img l recircSlot).isTrue then l
  else if l.air.atLeast (shieldOn img) ∨ l.air.exposure then enterMode img .shield (some .haze) l
  else if l.air.index = none then enterMode img .shield (some .unknown) l
  else enterMode img .fresh none l

/-- The tests of PURGE (R62). -/
def testsPurge (img : Bank) (t : Trigger) (l : Live) : Live :=
  let haze := seen img l cabHazeSlot
  if l.air.atLeast (closeOn img) then enterMode img .closed (some .haze) l
  else if l.air.atLeast (shieldOn img) then enterMode img .shield (some .haze) l
  else if l.air.index = none then enterMode img .shield (some .unknown) l
  else if (seen img l recircSlot).isTrue then enterMode img .closed (some .manual) l
  else if t = .purge then
    (if purgeClean img haze then enterMode img .fresh none l
     else { l with air := { l.air with purgeElapsed := true } })
  else if t = .cabHaze ∧ l.air.purgeElapsed ∧ purgeClean img haze then enterMode img .fresh none l
  else if t = .purgeLimit then latch kPurgeLimit haze.value.toNat (enterMode img .fresh none l)
  else l

/-- The tests of the mode that holds, of which the first that holds is taken (R57). -/
def applyTests (img : Bank) (t : Trigger) (l : Live) : Live :=
  match l.air.mode with
  | .fresh => testsFresh img t l
  | .shield => testsShield img t l
  | .closed =>
    match l.air.reason with
    | some .haze => testsClosedHaze img t l
    | some .manual => testsClosedManual img l
    | _ => l
  | .purge => testsPurge img t l

/-! ### Condition timers (R57) -/

/-- The condition of the rise timer. -/
def riseCondition (img : Bank) (a : Air) : Bool := a.mode == .fresh && a.atLeast (shieldOn img)

/-- The condition of the unknown timer. -/
def unknownCondition (a : Air) : Bool := a.mode == .fresh && a.index.isNone

/-- The condition of the fall timer. -/
def fallCondition (img : Bank) (a : Air) : Bool :=
  (a.mode == .shield && a.below (clearBelow img)) ||
    (a.mode == .closed && a.reason == some .haze && a.below (closeOff img))

/-- A timer after an evaluation: cancelled where its condition is false, left alone where it runs, started else. -/
def conditionTimer (now : Nat) (condition : Bool) (duration : Nat) (t : Timer) : Timer :=
  if condition then (match t with
    | some e => some e
    | none => some (now + duration))
  else none

/-- The condition timers started and cancelled. -/
def Air.withTimers (img : Bank) (now : Nat) (a : Air) : Air :=
  { a with
    rise := conditionTimer now (riseCondition img a) (riseDwell img * 100) a.rise
    unknown := conditionTimer now (unknownCondition a) (unknownDwell img * 100) a.unknown
    fall := conditionTimer now (fallCondition img a) (fallDwell img * 100) a.fall }

/-- The condition whose duration is 0 and which holds with its timer stopped: its transition is due at once. -/
def dueAtOnce (img : Bank) (a : Air) : Option Trigger :=
  if riseCondition img a ∧ a.rise = none ∧ riseDwell img = 0 then some .rise
  else if unknownCondition a ∧ a.unknown = none ∧ unknownDwell img = 0 then some .unknown
  else if fallCondition img a ∧ a.fall = none ∧ fallDwell img = 0 then some .fall
  else none

/-- The transition of a condition's rule. -/
def takeTransition (img : Bank) (t : Trigger) (l : Live) : Live :=
  match t, l.air.mode with
  | .rise, .fresh => enterMode img .shield (some .haze) l
  | .unknown, .fresh => enterMode img .shield (some .unknown) l
  | .fall, .shield => if l.air.exposure then enterMode img .purge none l else enterMode img .fresh none l
  | .fall, .closed => testsClosedHaze img .fall l
  | _, _ => l

/-- The transitions of conditions of zero duration, one entry after another, and then the timers (R57). A chain has at
most three of them in an image that passes R70. -/
def settleTimers (img : Bank) : Nat → Live → Live
  | 0, l => { l with air := l.air.withTimers img l.now }
  | n + 1, l =>
    match dueAtOnce img l.air with
    | some t => settleTimers img n (takeTransition img t l)
    | none => { l with air := l.air.withTimers img l.now }

/-- One evaluation of the mode machine (R57). -/
def evaluate (img : Bank) (t : Trigger) (l : Live) : Live := settleTimers img 4 (applyTests img t l)

/-! ### Notices and reports -/

/-- A haze notice: X is formed and the mode machine evaluated (R53). -/
def hazeNotice (img : Bank) (l : Live) : Live := evaluate img .notice (formIndex img l)

/-- A RECIRC_REQ notice (R57). -/
def recircNotice (img : Bank) (l : Live) : Live := evaluate img .notice l

/-- A CAB_HAZE notice: the ingress condition is tested and then the mode machine evaluated (R57, R66). The spec does not say
which comes first: the model tests in the mode that holds before the evaluation, so CAB_INGRESS can be latched by a notice
that then leaves CLOSED, log entry 38. -/
def cabHazeNotice (img : Bank) (l : Live) : Live := evaluate img .cabHaze (testIngress img l)

/-- The boost after an ENTRY_STATE notice, with its tail timer (R64). -/
def boostAtNotice (img : Bank) (now : Nat) (entry : Presented) (a : Air) : Air :=
  if entry.isTrue then (if a.mode.isSealed then { a with boost := .active, boostTail := none } else a)
  else
    match a.boost with
    | .active =>
      if boostTailTime img = 0 then { a with boost := .off }
      else { a with boost := .tail, boostTail := some (now + boostTailTime img * 100) }
    | _ => a

/-- An ENTRY_STATE notice (R64). -/
def entryNotice (img : Bank) (l : Live) : Live :=
  { l with air := boostAtNotice img l.now (seen img l entrySlot) l.air }

/-- The shield floor after a step by an over-pressure p (R65). -/
def floorStep (img : Bank) (p : Int) (floor : Nat) : Nat :=
  let moved :=
    if p < pressureTarget img then floor + shieldStep img
    else if pressureTarget img + (pressureBand img : Int) < p then floor - shieldStep img
    else floor
  min (max moved (shieldFloorMin img)) 1000

/-- A CAB_PRESSURE notice (R65). -/
def pressureNotice (img : Bank) (l : Live) : Live :=
  let p := seen img l pressureSlot
  if l.air.mode = .shield ∧ p.valid then
    { l with air := { l.air with shieldFloor := floorStep img p.value l.air.shieldFloor } }
  else l

/-- The planner reports a change of the defrost state (R67). -/
def defrostReport (img : Bank) (active : Bool) (l : Live) : Live :=
  reworkFraction img (testDefog img { l with air := { l.air with defrostCopy := active } })

/-- The controller takes a new image (R71): f in FRESH and the targets under the new parameters, and an issue. -/
def airActivates (img : Bank) (l : Live) : Live :=
  let f := if l.air.mode = .fresh then freshFraction img l.air.defrostCopy (seen img l outTempSlot) else l.air.fraction
  issueTargets img { l with air := Air.withTargets img { l.air with fraction := f } }

/-! ### Expiries -/

/-- The rise timer expires (R58). -/
def riseExpires (img : Bank) (l : Live) : Live :=
  evaluate img .rise { l with air := { l.air with rise := none } }

/-- The unknown timer expires (R58). -/
def unknownExpires (img : Bank) (l : Live) : Live :=
  evaluate img .unknown { l with air := { l.air with unknown := none } }

/-- The fall timer expires (R59, R60). -/
def fallExpires (img : Bank) (l : Live) : Live :=
  evaluate img .fall { l with air := { l.air with fall := none } }

/-- The purge timer expires (R62). -/
def purgeExpires (img : Bank) (l : Live) : Live :=
  evaluate img .purge { l with air := { l.air with purge := none } }

/-- The purge limit timer expires (R62). -/
def purgeLimitExpires (img : Bank) (l : Live) : Live :=
  evaluate img .purgeLimit { l with air := { l.air with purgeLimit := none } }

/-- The boost tail timer expires (R64). -/
def boostTailExpires (l : Live) : Live :=
  { l with air := { l.air with boost := if l.air.boost = .tail then .off else l.air.boost, boostTail := none } }

end Sys2Proof.Machine
end

