-- ==== Sys2Proof/Machine/Planner.lean ====
section
/-! DEFINITION. The zone planner (chapter 5): the plan pass, and what WATCH and activation do to it. -/

namespace Sys2Proof.Machine

/-! ### The slots it reads (R33) -/

def cabTempSlot (z : Fin 4) : Fin 32 := ⟨1 + z.val, by omega⟩
def setpointSlot (z : Fin 4) : Fin 32 := ⟨5 + z.val, by omega⟩
def fanSlot (z : Fin 4) : Fin 32 := ⟨25 + z.val, by omega⟩
def coolantSlot : Fin 32 := 9
def evapSlot : Fin 32 := 10
def coolingSlot : Fin 32 := 11
def defrostSlot : Fin 32 := 22
def zoneOnSlot : Fin 32 := 24

/-! ### Defrost and planned zones (R75, R76) -/

/-- The defrost state that a snapshot decides (R75). -/
def defrostNow (img : Bank) (s : Live) : Bool :=
  let out := seen img s outTempSlot
  (seen img s defrostSlot).isTrue || (s.air.mode.isSealed && out.valid && decide (out.value < defrostAuto img))

/-- A zone is planned in a pass (R76). -/
def zonePlanned (img : Bank) (s : Live) (defrost : Bool) (z : Fin 4) : Bool :=
  let on := seen img s zoneOnSlot
  (profile img z).enabled && (!on.valid || bit on.value.toNat z.val || (defrost && z == 0))

/-! ### Shared temperatures (R77 to R81) -/

/-- The readings that enter the cab average (R77). -/
def cabReadings (img : Bank) (s : Live) : List Int :=
  ([0, 1, 2] : List (Fin 4)).filterMap fun z =>
    let p := seen img s (cabTempSlot z)
    if p.valid && (profile img z).enabled then some p.value else none

/-- The cab average T_cab (R77). -/
def cabAverage (img : Bank) (s : Live) : Int :=
  let readings := cabReadings img s
  let out := seen img s outTempSlot
  if readings = [] then (if out.valid then out.value else 200) else Int.tdiv readings.sum readings.length

/-- The outside temperature T_out (R77). -/
def outTemperature (img : Bank) (s : Live) : Int :=
  let out := seen img s outTempSlot
  if out.valid then out.value else cabAverage img s

/-- The mix temperature T_mix (R78). -/
def mixTemperature (img : Bank) (s : Live) : Int :=
  divAway (s.air.fEff * outTemperature img s + (1000 - (s.air.fEff : Int)) * cabAverage img s) 1000

/-- The cold-side temperature Tc (R79). -/
def coldSide (img : Bank) (s : Live) : Int :=
  let evap := seen img s evapSlot
  if (seen img s coolingSlot).isTrue ∧ evap.valid then evap.value else mixTemperature img s

/-- The coolant valve is to be open (R80). -/
def valveOpen (img : Bank) (s : Live) : Bool :=
  let coolant := seen img s coolantSlot
  let tc := coldSide img s
  coolant.valid && decide (coolantMin img ≤ coolant.value) && decide (tc < s.planner.previousDmax.getD tc)

/-- The core temperature T_core (R81). -/
def coreTemperature (img : Bank) (s : Live) : Int :=
  if valveOpen img s then (seen img s coolantSlot).value - coreDrop img else coldSide img s

/-- The greater of T_core and Tc (R81, R90). -/
def coreOrCold (img : Bank) (s : Live) : Int := max (coreTemperature img s) (coldSide img s)

/-- The hot-side temperature Th (R81). -/
def hotSide (img : Bank) (s : Live) : Int := coreOrCold img s + stageRise img * stagesOn s.budget

/-! ### The zone loop (R82 to R89) -/

/-- What a zone's computation reads beside its own record: the shared temperatures, the defrost state and the snapshot's
air source outputs (R74). -/
structure PassContext where
  tc : Int
  th : Int
  spanMin : Nat
  defrost : Bool
  mode : Mode
  boosting : Bool
  boostLevel : Nat
  shieldFloor : Nat
deriving DecidableEq, Repr

/-- The context of a pass over a snapshot. -/
def passContext (img : Bank) (s : Live) (defrost : Bool) : PassContext :=
  { tc := coldSide img s, th := hotSide img s, spanMin := spanMin img, defrost := defrost, mode := s.air.mode,
    boosting := s.air.boosting, boostLevel := boostLevel img, shieldFloor := s.air.shieldFloor }

/-- The setpoint S (R82). -/
def zoneSetpoint (pr : Profile) (request : Presented) : Int :=
  if request.valid then clamp request.value pr.sLo pr.sHi else pr.setpoint

/-- The error e (R83). -/
def zoneError (setpoint : Int) (cab : Presented) : Int :=
  if cab.valid then clamp (setpoint - cab.value) (-300) 300 else 0

/-- The proportional term P (R84). -/
def proportional (pr : Profile) (e : Int) : Int := Int.tdiv (pr.kp * e) 16

/-- The candidate integrator (R84): the division is rounded toward zero and its quotient added. DEDUCED. -/
def candidateIntegrator (pr : Profile) (i e : Int) : Int := clamp (i + Int.tdiv (pr.ki * e) 64) (-pr.ilim) pr.ilim

/-- The integrator of a closed-loop zone after the anti-windup test (R84). -/
def steppedIntegrator (pr : Profile) (tc th s i e : Int) : Int :=
  let test := s + proportional pr e + Int.tdiv i 16
  if (th < test ∧ 0 < e) ∨ (test < tc ∧ e < 0) then i else candidateIntegrator pr i e

/-- The blower level before the floors (R87). -/
def fanLevel (pr : Profile) (e : Int) (request : Presented) : Nat :=
  if request.valid ∧ 0 < request.value then min (max request.value.toNat pr.wmin) pr.wmax
  else min (max (pr.wmin + pr.gw * e.natAbs / 8) pr.wmin) pr.wmax

/-- The blower target: floors, overrides and the final limit (R87, R88). -/
def blowerTarget (c : PassContext) (pr : Profile) (z : Fin 4) (level : Nat) : Nat :=
  let level := if c.boosting ∧ z ≠ 3 then max level c.boostLevel else level
  let level := if c.mode = .shield then max level c.shieldFloor else level
  let level := if (c.defrost ∧ z = 0) ∨ c.mode = .purge then pr.wmax else level
  min level 1000

/-- The outlet target (R89). -/
def outletTarget (c : PassContext) (z : Fin 4) (demand setpoint : Int) : Nat :=
  if c.defrost ∧ z = 0 then 1000
  else if setpoint + 50 < demand then 667
  else if demand < setpoint - 50 then 0
  else 333

/-- The blend B: held where the span is below span_min (R86). -/
def blendTarget (c : PassContext) (demand : Int) (held : Nat) : Nat :=
  if (c.spanMin : Int) ≤ c.th - c.tc then (divHalfUp (1000 * (demand - c.tc)) (c.th - c.tc)).toNat else held

/-- A planned zone after its computation, and its raw demand D_raw (R82 to R89). -/
def planZone (c : PassContext) (pr : Profile) (z : Fin 4) (cab request fan : Presented) (old : Zone) : Zone × Int :=
  let s := zoneSetpoint pr request
  let e := zoneError s cab
  let frozen := c.defrost && z == 0
  let i := if !cab.valid || frozen then old.integrator else steppedIntegrator pr c.tc c.th s old.integrator e
  let raw := if cab.valid then s + proportional pr e + Int.tdiv i 16 else s
  let demand := if frozen then c.th else clamp raw c.tc c.th
  ({ planned := true
     integrator := i
     blend := blendTarget c demand old.blend
     demand := demand
     level := blowerTarget c pr z (fanLevel pr e fan)
     outlet := outletTarget c z demand s
     openLoop := !cab.valid
     spanLow := decide (c.th - c.tc < (c.spanMin : Int))
     defrostFlag := frozen },
   raw)

/-- A zone that is not planned in the pass (R76). -/
def unplannedZone (old : Zone) : Zone :=
  { old with planned := false, integrator := 0, openLoop := false, spanLow := false, defrostFlag := false }

/-- A zone's record replaced; SPAN_LOW is latched where its flag goes from clear to set (R86). -/
def putZone (z : Fin 4) (new : Zone) (l : Live) : Live :=
  let was := (l.planner.zones.get z).spanLow
  let l := { l with planner := { l.planner with zones := l.planner.zones.set z new } }
  if new.spanLow && !was then latch kSpanLow z.val l else l

/-- The zones computed one by one from the snapshot, zone 0 first: the live part and the D_raw of the planned ones. -/
def planZones (img : Bank) (s : Live) (c : PassContext) : List (Fin 4) → Live → Live × List Int
  | [], l => (l, [])
  | z :: rest, l =>
    if zonePlanned img s c.defrost z then
      let r := planZone c (profile img z) z (seen img s (cabTempSlot z)) (seen img s (setpointSlot z))
        (seen img s (fanSlot z)) (s.planner.zones.get z)
      let (l, raws) := planZones img s c rest (putZone z r.1 l)
      (l, r.2 :: raws)
    else planZones img s c rest (putZone z (unplannedZone (s.planner.zones.get z)) l)

/-! ### The stage request (R90, R91) -/

/-- The four heater stages, STAGE_1 first. -/
def allStages : List (Fin 4) := List.finRange 4

/-- The stages that have a binding. -/
def boundStages (img : Bank) : List (Fin 4) := allStages.filter fun n => isBound img (stageRole n)

/-- The greatest of the raw demands, or Tc where no zone is planned (R90). -/
def greatestDemand (tc : Int) : List Int → Int
  | [] => tc
  | [x] => x
  | x :: rest => max x (greatestDemand tc rest)

/-- Dmax (R90). -/
def passDmax (c : PassContext) (raws : List Int) : Int := if c.defrost then c.th else greatestDemand c.tc raws

/-- The requested stage count n_req (R90). -/
def requestedStages (rise bound : Nat) (shortfall : Int) : Nat :=
  min (if 0 < shortfall then ceilDiv shortfall.toNat rise else 0) bound

/-- The stage targets stepped toward n_req by at most one (R91). -/
def stepStages (bound : List (Fin 4)) (request : Nat) (targets : Vector Bool 4) : Vector Bool 4 :=
  let on := (allStages.filter fun n => targets.get n).length
  if on < request then
    match bound.find? fun n => !targets.get n with
    | some n => targets.set n true
    | none => targets
  else if request < on then
    match allStages.reverse.find? fun n => targets.get n with
    | some n => targets.set n false
    | none => targets
  else targets

/-! ### The pass (R74, R92) -/

/-- A zone's targets handed on (R92). -/
def handZone (img : Bank) (z : Fin 4) (l : Live) : Live :=
  let zone := l.planner.zones.get z
  if zone.planned then
    let l := targetArrival img (blendRole z) { level := zone.blend, urgent := false } l
    let l := targetArrival img (outletRole z) { level := zone.outlet, urgent := false } l
    targetArrival img (blowerRole z) { level := zone.level, urgent := false } l
  else targetArrival img (blowerRole z) { level := 0, urgent := false } l

/-- A stage's target handed on (R92). -/
def handStage (img : Bank) (n : Fin 4) (l : Live) : Live :=
  targetArrival img (stageRole n) { level := if l.planner.stageTargets.get n then 1000 else 0, urgent := false } l

/-- The targets handed on: the valve, the zones in order, the bound stages in order (R92). -/
def handTargets (img : Bank) (valve : Bool) (l : Live) : Live :=
  let l := targetArrival img valveRole { level := if valve then 1000 else 0, urgent := false } l
  let l := allZones.foldl (fun l z => handZone img z l) l
  (boundStages img).foldl (fun l n => handStage img n l) l

/-- The planner's computation of a pass over the snapshot `s`: the defrost state, the zones, Dmax and the stage step. -/
def computePass (img : Bank) (s : Live) : Live :=
  let defrost := defrostNow img s
  let c := passContext img s defrost
  let l := { s with planner := { s.planner with defrost := defrost } }
  let (l, raws) := planZones img s c allZones l
  let dmax := passDmax c raws
  let bound := boundStages img
  let request := requestedStages (stageRise img) bound.length (dmax - coreOrCold img s)
  { l with planner := { l.planner with
      previousDmax := some dmax, stageTargets := stepStages bound request l.planner.stageTargets } }

/-- A plan pass: computation, hand-on, defrost report, and the plan timer started again (R73, R74, R75). -/
def planPass (img : Bank) (s : Live) : Live :=
  let l := handTargets img (valveOpen img s) (computePass img s)
  let l := if l.planner.defrost = s.planner.defrost then l else defrostReport img l.planner.defrost l
  { l with planner := { l.planner with timer := some (l.now + planPeriod img) } }

/-! ### Outside RUN and at activation (R94, R96) -/

/-- The planner at the entry to WATCH (R94). -/
def plannerParks (p : Planner) : Planner :=
  { p with previousDmax := none, stageTargets := Vector.replicate 4 false, zones := mapAll unplannedZone p.zones }

/-- The planner takes a new image (R96). -/
def plannerActivates (old img : Bank) (p : Planner) : Planner :=
  { p with
    zones := Vector.ofFn fun z =>
      if sameBytes old img (profileAddress z.val) 24 then p.zones.get z
      else { p.zones.get z with integrator := 0 }
    stageTargets := Vector.ofFn fun n => p.stageTargets.get n && isBound img (stageRole n) }

end Sys2Proof.Machine
end

