-- ==== Sys2Proof/Machine/Run.lean ====
section
/-! DEFINITION. The entry of the part state to RUN and the ignition timer (R181, R184). -/

namespace Sys2Proof.Machine

def ignitionSlot : Fin 32 := 16

/-- The period of the rollcall timer, in milliseconds (R144). -/
def rollcallPeriod : Nat := 2000

/-- The period of the probe timer, in milliseconds (R145). -/
def probePeriod : Nat := 1000

/-- The ignition timer is started, for watch_delay (R181). -/
def startIgnitionTimer (img : Bank) (l : Live) : Live :=
  { l with part := { l.part with ignitionTimer := some (l.now + watchDelay img), ignitionOff := true } }

/-- The ignition condition is tested at the entry to RUN (R181, R184). -/
def testIgnition (img : Bank) (l : Live) : Live :=
  if (seen img l ignitionSlot).isTrue then
    { l with part := { l.part with ignitionTimer := none, ignitionOff := false } }
  else startIgnitionTimer img l

/-- The part state and its timers at an entry to RUN, before the issue (R184). -/
def startRun (img : Bank) (l : Live) : Live :=
  let l := { l with
    part := { l.part with state := .run }
    planner := { l.planner with timer := some (l.now + planPeriod img) }
    link := { l.link with
      rollcallTimer := some (l.now + rollcallPeriod), probeTimer := some (l.now + probePeriod), wake := .none } }
  testIgnition img l

/-- The part enters RUN: the plan, rollcall, probe and ignition timers, and the air source controller's issue (R184). -/
def enterRun (img : Bank) (l : Live) : Live := issueTargets img (startRun img l)

/-- An IGNITION notice in RUN (R181). One that finds the slot valid and true as before clears a settle request too: the
model's choice, log entry 34. -/
def ignitionInRun (img : Bank) (l : Live) : Live :=
  if (seen img l ignitionSlot).isTrue then
    { l with part := { l.part with ignitionTimer := none, ignitionOff := false, settleRequest := false } }
  else if l.part.ignitionOff then l
  else startIgnitionTimer img l

/-- An IGNITION notice (R181, R182). In SETTLING every one that finds the slot valid and true returns the part to RUN, as
it may have been before: the model's choice, log entry 34. -/
def ignitionNotice (img : Bank) (l : Live) : Live :=
  match l.part.state with
  | .run => ignitionInRun img l
  | .settling => if (seen img l ignitionSlot).isTrue then enterRun img l else l
  | _ => l

end Sys2Proof.Machine
end

