-- ==== Sys2Proof/Machine/CabLink.lean ====
section
/-! DEFINITION. The cab link controller (chapter 8): how transactions end, rollcall and binding, the directory, the window,
stuck lines and recovery. -/

namespace Sys2Proof.Machine

/-! ### Result codes of replies (R185) -/

def rDone : Nat := 0
def rStarted : Nat := 1
def rBusy : Nat := 2
def rBadRequest : Nat := 3
def rRange : Nat := 4
def rProtected : Nat := 5
def rInService : Nat := 6
def rCheckMismatch : Nat := 7
def rInvalidRecord : Nat := 8
def rSequence : Nat := 9
def rSaving : Nat := 10
def rLinkDown : Nat := 11
def rNoReply : Nat := 12
def rNodeRefused : Nat := 13

/-! ### The window access (R155) -/

def Live.onLinkBlock (f : Link → Link) (l : Live) : Live := { l with link := f l.link }

/-- A window access ends with an outcome: the request is answered and the management unit is free (R155, R158). -/
def finishAccess (result : Nat) (l : Live) : Live :=
  match l.management.inProgress with
  | some .nodeRead => reply 0x38 result [] { l with management := { l.management with inProgress := none } }
  | some .nodeWrite => reply 0x39 result [] { l with management := { l.management with inProgress := none } }
  | _ => l

/-- A window request waits in the list. -/
def windowWaits (l : Live) : Bool := l.link.requests.any fun q => q.owner == .window

/-- A waiting window access is removed and ends with an outcome. -/
def cancelAccess (result : Nat) (l : Live) : Live :=
  if windowWaits l then finishAccess result (withdraw (fun q => q.owner == .window) l) else l

/-- The window with the first bytes replaced (R155). -/
def windowFilled (data : List Byte) (w : Vector Byte 16) : Vector Byte 16 :=
  Vector.ofFn fun k => data.getD k.val (w.get k)

/-- The transaction of a window access ends (R155). -/
def windowEnds (e : Ending) (l : Live) : Live :=
  match e with
  | .accept => finishAccess rDone l
  | .data bytes => finishAccess rDone (l.onLinkBlock fun k => { k with window := windowFilled bytes k.window })
  | .failure => finishAccess rNoReply l
  | _ => finishAccess rNodeRefused l

/-! ### The directory (R143, R146, R147, R149) -/

/-- The state of an entry that is known to answer: BOUND where a binding names its serial, SPARE else (R143). -/
def knownState (img : Bank) (serial : Nat) : NodeState := if namesSerial img serial then .bound else .spare

/-- The consecutive failures that make an entry LOST (R147). -/
def lossCount : Nat := 3

/-- An entry after a failed transaction (R147). -/
def Node.failed (n : Node) : Node :=
  { n with consecutive := countUp n.consecutive lossCount, total := countUp n.total 255 }

/-- A BOUND or SPARE entry becomes LOST: NODE_LOST, the report of a BOUND node, and the end of a waiting window access of
the node (R147, R155). A probe of WAKING that still waits for the entry stays in the list, and its success finds the node:
the model's choice, log entry 43. -/
def loseNode (img : Bank) (n : Node) (l : Live) : Live :=
  let l := l.onLinkBlock (Link.onNode n.address fun m => { m with state := .lost })
  let l := latch kNodeLost n.address l
  let l := if n.state = .bound then nodeGone img n.serial l else l
  if l.link.requests.any fun q => q.owner == .window && q.address == n.address then cancelAccess rNoReply l else l

/-- The outcome of a transaction is counted against its node (R147). -/
def countOutcome (img : Bank) (address : Nat) (success : Bool) (l : Live) : Live :=
  match l.link.nodeAt address with
  | none => l
  | some n =>
    if n.state = .bound ∨ n.state = .spare then
      if success then l.onLinkBlock (Link.onNode address fun m => { m with consecutive := 0 })
      else
        let l := l.onLinkBlock (Link.onNode address Node.failed)
        if n.failed.consecutive = lossCount then loseNode img n l else l
    else l

/-- A LOST entry's node is found: BOUND or SPARE, NODE_FOUND, and the report of a BOUND node (R143, R145). -/
def findNode (img : Bank) (n : Node) (l : Live) : Live :=
  let l := l.onLinkBlock (Link.onNode n.address fun m =>
    { m with state := knownState img n.serial, consecutive := 0 })
  let l := latch kNodeFound n.address l
  if knownState img n.serial = .bound then nodeBound img n.serial l else l

/-- A probe ends: a success finds a LOST node (R145). -/
def probeEnds (img : Bank) (address : Nat) (success : Bool) (l : Live) : Live :=
  match l.link.nodeAt address with
  | some n => if success ∧ n.state = .lost then findNode img n l else l
  | none => l

/-- A waiting probe of an entry is removed. -/
def removeProbe (address : Nat) (l : Live) : Live :=
  withdraw (fun q => q.owner == .probe && q.address == address) l

/-- The lowest address from 1 to 16 that no entry holds (R143). -/
def freeAddress (k : Link) : Option Nat := ((List.range 17).drop 1).find? fun a => (k.nodeAt a).isNone

/-- A serial and an address that a new entry may hold: an address from 1 to 16 that no entry holds, and a serial other than
0 and all ones (R143, R146). -/
def entryFits (k : Link) (serial address : Nat) : Bool :=
  decide (serial ≠ 0) && decide (serial ≠ 0xFFFFFFFF) && decide (1 ≤ address) && decide (address ≤ 16) &&
    (k.nodeAt address).isNone

/-- A BIND is accepted: the directory changes by the state of the serial's entry (R143). A probe that waits for the entry is
removed (R145), also one that WAKING placed for a BOUND entry before a BIND left over from before WATCH was accepted: the
model's choice, log entry 28. -/
def bindAccepted (img : Bank) (serial address kind : Nat) (l : Live) : Live :=
  match l.link.nodeOf serial with
  | none =>
    if entryFits l.link serial address then
      let entry : Node :=
        { serial := serial, address := address, kind := kind, state := knownState img serial, consecutive := 0,
          total := 0 }
      let l := l.onLinkBlock fun k => { k with directory := k.directory ++ [entry] }
      let l := if l.part.state = .run then latch kNodeFound address l else l
      if entry.state = .bound then nodeBound img serial l else l
    else l
  | some n =>
    let l := l.onLinkBlock (Link.onNode n.address fun m => { m with kind := kind })
    match n.state with
    | .lost => findNode img n (removeProbe n.address l)
    | .bound =>
      let l := l.onLinkBlock (Link.onNode n.address fun m => { m with consecutive := 0 })
      nodeBound img serial (nodeGone img serial (latch kNodeFound n.address (removeProbe n.address l)))
    | .spare =>
      let l := l.onLinkBlock (Link.onNode n.address fun m => { m with consecutive := 0 })
      latch kNodeFound n.address (removeProbe n.address l)
    | .excluded => l

/-- The directory takes the bindings of a new image (R149). -/
def directoryActivates (img : Bank) (k : Link) : Link :=
  { k with directory := k.directory.map fun n =>
      match n.state with
      | .bound | .spare => { n with state := knownState img n.serial }
      | _ => n }

/-! ### Series (R142 to R144) -/

/-- A request of the controller for rollcall or its BIND. -/
def isRollcall (q : LinkRequest) : Bool := q.owner == .rollcall

/-- The next round of a series is requested. -/
def requestRound (reset : Bool) (l : Live) : Live := placeRequest .rollcall 0 (.rollcall reset) .rollcall l

/-- A series starts, unless one runs; the first after a start of the part sends the reset form (R144, R157, R189). -/
def startSeries (l : Live) : Live :=
  if l.link.series.isSome then l
  else
    requestRound l.link.resetOwed
      (l.onLinkBlock fun k => { k with series := some { winner := none, failedBinds := [] }, resetOwed := false })

/-- The part state waits for the end of the series (R144). -/
def awaitsSeries (l : Live) : Bool :=
  match l.part.state with
  | .starting => true
  | .waking => l.link.wake == .rolling
  | _ => false

/-- A series may go on with another round: in RUN, and where the part state waits for it (R144). -/
def seriesGoesOn (l : Live) : Bool := l.part.state == .run || awaitsSeries l

/-- A series ends, and its end is reported to the part state block (R144). -/
def endSeries (img : Bank) (l : Live) : Live :=
  let l := l.onLinkBlock fun k => { k with series := none }
  if awaitsSeries l then enterRun img l else l

/-- A series is ended by a stuck line, which the part state does not take for its end (R142, R144). -/
def breakSeries (l : Live) : Live := l.onLinkBlock fun k => { k with series := none }

/-- The BIND of a round's winner is requested (R143). -/
def requestBind (serial kind address : Nat) (l : Live) : Live :=
  placeRequest .rollcall 0 (.bind serial address) .rollcall
    (l.onLinkBlock fun k => { k with series := k.series.map fun s => { s with winner := some (serial, kind) } })

/-- A round with a winner (R143). -/
def roundWon (img : Bank) (serial kind : Nat) (l : Live) : Live :=
  match l.link.nodeOf serial with
  | some n => requestBind serial kind n.address l
  | none =>
    if 16 ≤ l.link.directory.length then endSeries img (latch kDirectoryFull (serial % 65536) l)
    else
      match freeAddress l.link with
      | some a => requestBind serial kind a l
      | none => l

/-- The 32 serial bits of a quiet round. -/
def allOnesSerial : Nat := 0xFFFFFFFF

/-- The 40 bits of a round have been read (R142). Where the part state runs no series no BIND is sent. -/
def roundEnds (img : Bank) (serial kind : Nat) (l : Live) : Live :=
  if serial = allOnesSerial ∧ kind = 255 then endSeries img l
  else if serial = 0 then endSeries img l
  else if seriesGoesOn l ∨ l.part.state = .settling then roundWon img serial kind l
  else breakSeries l

/-- The next round after a BIND, unless the series has ended (R143, R144). A series that SETTLING was to end goes on where
the part is back in RUN before its round or BIND has ended: the model's choice, log entry 28. -/
def nextRound (l : Live) : Live := if seriesGoesOn l then requestRound false l else breakSeries l

/-- A BIND has failed: the second failure of a serial in a series ends the series (R143). -/
def bindFailed (img : Bank) (serial : Nat) (l : Live) : Live :=
  match l.link.series with
  | none => l
  | some s =>
    if serial ∈ s.failedBinds then endSeries img l
    else nextRound (l.onLinkBlock fun k => { k with series := some { s with failedBinds := s.failedBinds ++ [serial] } })

/-- The kind read in the round of a series' winner. -/
def winnerKind : Option Series → Nat
  | some { winner := some (_, kind), .. } => kind
  | _ => 0

/-- The round or BIND left over from before WATCH has ended: no round follows it (R156). -/
def dropLeftOver (l : Live) : Live := l.onLinkBlock fun k => { k with leftOver := none }

/-- A BIND has ended (R143): one left over from before WATCH still binds its node (R156, log entry 28). -/
def bindEnds (img : Bank) (serial address : Nat) (success : Bool) (l : Live) : Live :=
  if l.link.leftOver.isSome then
    dropLeftOver (if success then bindAccepted img serial address (winnerKind l.link.leftOver) l else l)
  else if success then nextRound (bindAccepted img serial address (winnerKind l.link.series) l)
  else bindFailed img serial l

/-- A round has ended: its bits are read, but one left over from before WATCH gets no BIND (R142, R156, log entry 28). -/
def roundOver (img : Bank) (serial kind : Nat) (l : Live) : Live :=
  if l.link.leftOver.isSome then dropLeftOver l else roundEnds img serial kind l

/-- Some role's binding names a serial that the directory does not hold: an UNSEEN binding (R144). -/
def unseenBinding (img : Bank) (l : Live) : Bool :=
  allRoles.any fun r => isBound img r && (l.link.nodeOf (binding img r).serial).isNone

/-- Some entry is LOST. -/
def anyLost (l : Live) : Bool := l.link.directory.any fun n => n.state == .lost

/-! ### Waking (R156) -/

/-- A probe waits or is on the link. -/
def probeOutstanding (k : Link) : Bool :=
  k.requests.any (fun q => q.owner == .probe) || k.onLink.any fun q => q.owner == .probe

/-- Once every probe of WAKING has ended the series starts (R156). -/
def afterProbes (l : Live) : Live :=
  if l.part.state = .waking ∧ l.link.wake = .probing ∧ probeOutstanding l.link = false then
    startSeries (l.onLinkBlock fun k => { k with wake := .rolling })
  else l

/-- A probe of every BOUND entry, and then the series (R156). -/
def beginProbes (l : Live) : Live :=
  afterProbes (placeProbes .bound (l.onLinkBlock fun k => { k with wake := .probing }))

/-- The link is RUNNING again: what STARTING and WAKING wait for goes on (R144, R156). -/
def linkRestored (l : Live) : Live :=
  match l.part.state with
  | .starting => startSeries l
  | .waking =>
    match l.link.wake with
    | .awaitLink => beginProbes l
    | .rolling => startSeries l
    | _ => l
  | _ => l

/-! ### The end of a transaction (R140, R150) -/

/-- The outcome is told to the owner of the request. -/
def deliverOutcome (img : Bank) (r : LinkRequest) (e : Ending) (l : Live) : Live :=
  match r.owner, r.command with
  | .item role id, c => deliverToItem img role id c e l
  | .window, _ => windowEnds e l
  | .probe, _ => probeEnds img r.address (e != .failure) l
  | .rollcall, .bind serial address => bindEnds img serial address (e == .accept) l
  | .rollcall, _ => l

/-- The outcome of a transaction with a node is counted; ROLLCALL and BIND are not (R147). -/
def countTransaction (img : Bank) (r : LinkRequest) (e : Ending) (l : Live) : Live :=
  if isRollcall r then l else countOutcome img r.address (e != .failure) l

/-- The link is free again, and the arbiter makes its next choice, before the part state looks whether SETTLING has ended:
the model's choice, log entry 10. -/
def freeLink (l : Live) : Live :=
  afterProbes (arbitrate (l.onLinkBlock fun k => { k with onLink := none, sent := false, replyWindow := none }))

/-- The transaction in progress ends: counted, told to its owner, and the link freed. -/
def endTransaction (img : Bank) (r : LinkRequest) (e : Ending) (l : Live) : Live :=
  freeLink (deliverOutcome img r e (countTransaction img r e l))

/-- A node's reply to the request on the link, where a test accepts that request: it has been sent whole. -/
def takeReply (img : Bank) (test : LinkRequest → Bool) (reply : LinkReply) (l : Live) : Live :=
  match l.link.onLink with
  | some r => if l.link.sent ∧ test r then endTransaction img r (replyEnding r.command reply) l else l
  | none => l

def isMove (r : LinkRequest) : Bool :=
  match r.command with
  | .move _ _ => true
  | _ => false

def isHome (r : LinkRequest) : Bool :=
  match r.command with
  | .home _ => true
  | _ => false

def isSet (r : LinkRequest) : Bool :=
  match r.command with
  | .set _ _ => true
  | _ => false

def isHalt (r : LinkRequest) : Bool :=
  match r.command with
  | .halt _ => true
  | _ => false

def isProbe (r : LinkRequest) : Bool := r.owner == .probe

/-- A poll: a QUERY that is not a probe. -/
def isPoll (r : LinkRequest) : Bool :=
  match r.command with
  | .query _ => !isProbe r
  | _ => false

def isBind (r : LinkRequest) : Bool :=
  match r.command with
  | .bind _ _ => true
  | _ => false

def isRead (r : LinkRequest) : Bool :=
  match r.command with
  | .read _ _ _ => true
  | _ => false

def isWrite (r : LinkRequest) : Bool :=
  match r.command with
  | .write _ _ _ => true
  | _ => false

/-- A round: a ROLLCALL. -/
def isRound (r : LinkRequest) : Bool :=
  match r.command with
  | .rollcall _ => true
  | _ => false

/-- The reply window, in milliseconds (R140). -/
def replyWindowTime : Nat := 8

/-- The check byte has been sent: the reply window begins, or the 40 bits of a round (R139, R140, R142). -/
def requestSent (l : Live) : Live :=
  match l.link.onLink with
  | some r =>
    if l.link.sent then l
    else l.onLinkBlock fun k =>
      { k with sent := true, replyWindow := if isRound r then none else some (l.now + replyWindowTime) }
  | none => l

/-- The reply window passes without a start bit (R140). -/
def windowPasses (img : Bank) (l : Live) : Live :=
  match l.link.onLink with
  | some r => endTransaction img r .failure l
  | none => l

/-- The round on the link has been read (R142). -/
def roundRead (img : Bank) (serial kind : Nat) (l : Live) : Live :=
  match l.link.onLink with
  | some r => if l.link.sent ∧ isRound r then freeLink (roundOver img serial kind l) else l
  | none => l

/-! ### Stuck line and recovery (R152 to R154) -/

/-- The series of the round in progress ends by a stuck line (R142, R152). -/
def breakRound (l : Live) : Live := if l.link.leftOver.isSome then dropLeftOver l else breakSeries l

/-- The transaction in progress ends by the stuck line (R152): a round ends its series, any other fails. -/
def stuckTransaction (img : Bank) (l : Live) : Live :=
  match l.link.onLink with
  | none => l
  | some r => if isRound r then freeLink (breakRound l) else endTransaction img r .failure l

/-- The data line is stuck (R152): watched while the link is RUNNING, in every part state but WATCH. -/
def lineIsStuck (img : Bank) (l : Live) : Live :=
  if l.link.state = .running ∧ l.part.state ≠ .watch then
    stuckTransaction img (l.onLinkBlock fun k => { k with state := .recovering, attempts := 0, attempting := true })
  else l

/-- Time between the end of a failed attempt and the next, in milliseconds (R153). -/
def recoveryDelay : Nat := 100

/-- Time between the attempts of a FAILED link, in milliseconds (R154). -/
def failedRetry : Nat := 5000

/-- The number of BOUND and SPARE entries. -/
def reachableNodes (k : Link) : Nat := (k.directory.filter fun n => n.state == .bound || n.state == .spare).length

/-- Every BOUND and SPARE entry becomes LOST with its counts kept (R153). -/
def loseAll (k : Link) : Link :=
  { k with directory := k.directory.map fun n =>
      match n.state with
      | .bound | .spare => { n with state := .lost }
      | _ => n }

/-- The link becomes FAILED (R153): the entries LOST, LINK_FAILED, the sequencer told, a waiting window access ended
LINK_DOWN, probes and rollcall removed, and the series ended. That the entries are LOST before LINK_FAILED is latched is the
model's choice, log entry 42. -/
def linkFails (img : Bank) (l : Live) : Live :=
  let count := reachableNodes l.link
  let l := l.onLinkBlock fun k => { loseAll k with state := .failed, retryTimer := some (l.now + failedRetry) }
  let l := linkGone img (latch kLinkFailed count l)
  let l := cancelAccess rLinkDown l
  let l := withdraw (fun q => isProbe q || isRollcall q) l
  let l := l.onLinkBlock fun k => { k with series := none }
  if l.part.state = .starting ∨ l.part.state = .waking then enterRun img l else l

/-- A recovery attempt of a RECOVERING link ends (R153). -/
def recoveringAttempt (img : Bank) (released : Bool) (l : Live) : Live :=
  let n := l.link.attempts + 1
  let l := l.onLinkBlock fun k => { k with attempts := n, attempting := false }
  if released then
    let l := latch kLinkStuck n (l.onLinkBlock fun k => { k with state := .running })
    linkRestored (arbitrate l)
  else if n < 3 then l.onLinkBlock fun k => { k with delayTimer := some (l.now + recoveryDelay) }
  else linkFails img l

/-- A recovery attempt of a FAILED link ends (R154): a released line brings it back, in RUN with a probe of every LOST
entry and a series. -/
def failedAttempt (released : Bool) (l : Live) : Live :=
  let l := l.onLinkBlock fun k => { k with attempting := false }
  if released then
    let l := l.onLinkBlock fun k => { k with state := .running, retryTimer := none }
    if l.part.state = .run then startSeries (placeProbes .lost (arbitrate l)) else linkRestored (arbitrate l)
  else l

/-- A recovery attempt ends (R153, R154). -/
def attemptEnds (img : Bank) (released : Bool) (l : Live) : Live :=
  if l.link.attempting then
    match l.link.state with
    | .recovering => recoveringAttempt img released l
    | .failed => failedAttempt released l
    | .running => l
  else l

/-- 100 ms after a failed attempt the next one starts (R153). -/
def delayPasses (l : Live) : Live := l.onLinkBlock fun k => { k with delayTimer := none, attempting := true }

/-- The 5 s timer of a FAILED link expires: an attempt runs (R154). -/
def retryPasses (due : Nat) (l : Live) : Live :=
  l.onLinkBlock fun k => { k with retryTimer := some (due + failedRetry), attempting := true }

/-! ### Timers of RUN (R144, R145) -/

/-- The rollcall timer expires (R144). -/
def rollcallDue (img : Bank) (due : Nat) (l : Live) : Live :=
  let l := l.onLinkBlock fun k => { k with rollcallTimer := some (due + rollcallPeriod) }
  if unseenBinding img l || anyLost l then startSeries l else l

/-- The probe timer expires (R145). -/
def probesDue (due : Nat) (l : Live) : Live :=
  placeProbes .lost (l.onLinkBlock fun k => { k with probeTimer := some (due + probePeriod) })

/-! ### Exclusion (R148) -/

/-- EXCLUDE_NODE of an entry (R148). -/
def excludeEntry (img : Bank) (n : Node) (l : Live) : Live :=
  let l := l.onLinkBlock (Link.onNode n.address fun m => { m with state := .excluded })
  let l := removeProbe n.address l
  let told := n.state == .bound || n.state == .spare || (n.state == .lost && namesSerial img n.serial)
  afterProbes (if told then nodeGone img n.serial l else l)

/-- ADMIT_NODE of an entry (R148). -/
def admitEntry (n : Node) (l : Live) : Live :=
  if n.state = .excluded then
    l.onLinkBlock (Link.onNode n.address fun m => { m with state := .lost, consecutive := lossCount })
  else l

end Sys2Proof.Machine
end

