-- ==== Sys2Proof/Machine/Parking.lean ====
section
/-! DEFINITION. SETTLING, WATCH and WAKING (chapter 11): what each block does at the entry. -/

namespace Sys2Proof.Machine

/-! ### SETTLING (R182) -/

/-- The link at the entry to SETTLING: timers stopped, waiting probes removed, and a series ended unless its round or BIND
is still to be carried out (R144, R156). -/
def linkSettles (l : Live) : Live :=
  let l := withdraw isProbe (l.onLinkBlock fun k => { k with rollcallTimer := none, probeTimer := none })
  let l := withdraw isRound l
  if l.link.requests.any isBind || l.link.onLink.any isRollcall then l else breakSeries l

/-- The part enters SETTLING (R182). -/
def enterSettling (img : Bank) (l : Live) : Live :=
  let l := { l with
    part := { l.part with state := .settling, ignitionTimer := none, ignitionOff := false, settleRequest := false }
    planner := { l.planner with timer := none } }
  sequencerSettles img (linkSettles l)

/-- The ignition timer's expiry and SLEEP in RUN: SETTLING, or the settle request while a save runs (R181). -/
def askSettle (img : Bank) (l : Live) : Live :=
  if l.management.saving.isSome then { l with part := { l.part with settleRequest := true } }
  else enterSettling img l

/-! ### WATCH (R183) -/

/-- The link at the entry to WATCH (R156): only a window request stays in the list, and it ends NO_REPLY where the link is
RECOVERING; recovery stops, and an attempt in progress is cut off without counting (log entry 35). A round or BIND on the
link runs to its end, and its series is over; a BIND that the arbiter took when the last reply of SETTLING freed the link is
one of these, while one that still waits is removed (the order is the model's choice, log entries 10 and 28). -/
def linkParks (l : Live) : Live :=
  let l := if l.link.state = .recovering then cancelAccess rNoReply l else l
  let l := withdraw (fun q => q.owner != .window) l
  let l := l.onLinkBlock fun k =>
    { k with rollcallTimer := none, probeTimer := none, attempting := false, delayTimer := none, retryTimer := none,
             wake := .none }
  l.onLinkBlock fun k =>
    { k with leftOver := if k.onLink.any isRollcall then k.series else none, series := none }

/-- The classifier at the entry to WATCH (R16). -/
def Classifier.parks (c : Classifier) : Classifier := { c with state := if c.state = .idle then .stopped else c.state }

/-- The part enters WATCH (R183). -/
def enterWatch (l : Live) : Live :=
  let l := { l with
    part := { l.part with state := .watch }
    port := { l.port with rxQueue := [] }
    classifier := l.classifier.parks
    planner := plannerParks l.planner
    events := { l.events with statusTimer := none } }
  linkParks (sequencerParks l)

/-- SETTLING ends in WATCH once the sequencer is quiet and no save runs (R134, R182). It is the last thing that an event
does, after the link has been freed and the arbiter has chosen: the model's choice, log entry 10. -/
def settleCheck (l : Live) : Live :=
  if l.part.state = .settling ∧ l.sequencer.quiet ∧ l.management.saving.isNone then enterWatch l else l

/-! ### WAKING (R184) -/

/-- The classifier at the entry to WAKING (R16). -/
def Classifier.wakes (c : Classifier) : Classifier := { c with state := if c.state = .stopped then .idle else c.state }

/-- The link at the entry to WAKING (R156): probes, or a recovery attempt at once, whose number follows those that ended
before WATCH (log entry 35). -/
def linkWakes (l : Live) : Live :=
  match l.link.state with
  | .running => beginProbes l
  | .recovering => l.onLinkBlock fun k => { k with attempting := true, wake := .awaitLink }
  | .failed =>
    l.onLinkBlock fun k => { k with attempting := true, retryTimer := some (l.now + failedRetry), wake := .awaitLink }

/-- The part enters WAKING (R184). -/
def enterWaking (img : Bank) (l : Live) : Live :=
  let l := { l with
    part := { l.part with state := .waking }
    classifier := l.classifier.wakes
    events := { l.events with statusTimer := some (l.now + statusPeriod img) } }
  let l := if l.events.owed ∧ l.events.spacingHold.isNone then placeStatusE l else l
  linkWakes l

/-- In WAKING with the link FAILED the series counts as ended (R156). -/
def wakeCheck (img : Bank) (l : Live) : Live :=
  if l.part.state = .waking ∧ l.link.state = .failed then enterRun img l else l

end Sys2Proof.Machine
end

