-- ==== Sys2Proof/Machine/Slots.lean ====
section
/-! DEFINITION. The signal slots (chapter 3): notices, offers, expiries, forcing and activation. -/

namespace Sys2Proof.Machine

def onSlot (n : Fin 32) (f : Slot → Slot) (l : Live) : Live := { l with slots := updateAt l.slots n f }

def slotOf (l : Live) (n : Fin 32) : Slot := l.slots.get n

/-! ### Notices (R37) -/

/-- A BATTERY_VOLTS notice: band and avail are worked out again; a rise sends a room notice, and the test for shedding
follows a change (R98, R105). -/
def batteryNotice (img : Bank) (l : Live) : Live :=
  let old := l.budget.avail
  let l := workOutAvail img l
  if l.budget.avail = old then l
  else testShed img (if old < l.budget.avail then roomNotice img l else l)

/-- A slot notice reaches the readers of its role; the planner and the management unit take none (R33, R37). -/
def notify (img : Bank) (n : Fin 32) (l : Live) : Live :=
  if n = outTempSlot then reworkFraction img l
  else if n = batterySlot then batteryNotice img l
  else if n = ignitionSlot then ignitionNotice img l
  else if 17 ≤ n.val ∧ n.val ≤ 20 then hazeNotice img l
  else if n = entrySlot then entryNotice img l
  else if n = recircSlot then recircNotice img l
  else if n = pressureSlot then pressureNotice img l
  else if n = cabHazeSlot then cabHazeNotice img l
  else l

/-- A notice of a change that a FORCED slot hides is not sent (R37, R46). -/
def notifyUnlessForced (img : Bank) (n : Fin 32) (l : Live) : Live :=
  if (slotOf l n).forced.isSome then l else notify img n l

/-! ### Expiries (R42, R43) -/

/-- The time of a slot's stale expiry, while one is ahead (R42). -/
def staleDue (img : Bank) (n : Fin 32) (s : Slot) : Timer :=
  let d := slotDef img n
  if s.belief = .fresh ∧ d.holdTime ≠ 0 then s.since.map (· + d.staleAge) else none

/-- The time of a slot's lapse expiry, while one is ahead (R43). -/
def lapseDue (img : Bank) (n : Fin 32) (s : Slot) : Timer :=
  let d := slotDef img n
  if s.belief = .fresh ∨ s.belief = .stale then s.since.map (· + d.lapseAge) else none

/-- The stale expiry (R42, R46). -/
def staleExpires (img : Bank) (n : Fin 32) (l : Live) : Live :=
  notifyUnlessForced img n (onSlot n (fun s => { s with belief := .stale }) l)

/-- The lapse expiry (R43, R46). -/
def lapseExpires (img : Bank) (n : Fin 32) (l : Live) : Live :=
  let d := slotDef img n
  let l := onSlot n (fun s => { s with belief := .lapsed, value := d.default }) l
  notifyUnlessForced img n (latch kSlotLapsed n.val l)

/-! ### Offers (R38 to R40) -/

/-- A slot's lapse expiry is due: its offer and its lapse fall together (R44). -/
def lapsing (img : Bank) (n : Fin 32) (l : Live) : Bool := (lapseDue img n (slotOf l n)).any fun e => decide (e ≤ l.now)

/-- The rank test (R38). An offer taken together with the slot's lapse is accepted at any rank (R44, third line): where
hold_time is 0 the slot is still FRESH then and R38 would outrank a worse-ranked offer, and the model follows R44, log entry
37. -/
def Slot.accepts (lapsing : Bool) (rank : Nat) (s : Slot) : Bool :=
  s.belief != .fresh || lapsing || decide (rank ≤ s.rank)

/-- An accepted offer: clamp, value, rank and age (R39, R40). -/
def Slot.accepted (d : SlotDef) (now : Nat) (value : Int) (rank : Nat) (s : Slot) : Slot :=
  let out := decide (value < d.lo ∨ d.hi < value)
  { s with
    belief := .fresh
    value := clamp value d.lo d.hi
    rank := rank
    since := some now
    clamped := out
    clampCount := if out then countUp s.clampCount 255 else s.clampCount }

/-- A slot takes an offer (R38, R44). -/
def offerSlot (img : Bank) (n : Fin 32) (value : Int) (rank : Nat) (l : Live) : Live :=
  let d := slotDef img n
  if !d.enabled then l
  else if (slotOf l n).accepts (lapsing img n l) rank then
    notifyUnlessForced img n (onSlot n (Slot.accepted d l.now value rank) l)
  else onSlot n (fun s => { s with outranked := countUp s.outranked 255 }) l

/-! ### Forcing (R45, R47) -/

def forceSlotTo (img : Bank) (n : Fin 32) (value : Int) (l : Live) : Live :=
  notify img n (onSlot n (fun s => { s with forced := some value }) l)

def releaseSlotOf (img : Bank) (n : Fin 32) (l : Live) : Live :=
  if (slotOf l n).forced.isSome then notify img n (onSlot n (fun s => { s with forced := none }) l) else l

/-! ### Activation (R49) -/

/-- A slot returned to NEVER (R49). -/
def Slot.returned (d : SlotDef) (s : Slot) : Slot :=
  { s with belief := .never, value := d.default, rank := 3, since := none, clamped := false }

/-- All the slots, in order. -/
def allSlots : List (Fin 32) := List.finRange 32

/-- The slots take a new image: those whose 16 definition bytes changed return to NEVER (R49). The
spec leaves their order open: the model takes rising slot numbers, each notice acted on before the next slot returns (log
entry 16). -/
def slotsActivate (old img : Bank) (l : Live) : Live :=
  (allSlots.filter fun n => !sameBytes old img (slotDefAddress n.val) 16).foldl (fun l n =>
    notifyUnlessForced img n (onSlot n (Slot.returned (slotDef img n)) l)) l

end Sys2Proof.Machine
end

