-- ==== Sys2Proof/Machine/Classify.lean ====
section
/-! DEFINITION. The frame classifier (chapter 2): the scan of one frame. -/

namespace Sys2Proof.Machine

/-- The number of rules (section 2.1). -/
def ruleCount : Nat := 96

/-- The maximum of the classifier's counters (R21, R29). -/
def countMax : Nat := 65535

def onCounts (n : Nat) (f : RuleCounts → RuleCounts) (l : Live) : Live :=
  if h : n < 96 then
    { l with classifier := { l.classifier with counts := updateAt l.classifier.counts ⟨n, h⟩ f } }
  else l

def countHit (n : Nat) (l : Live) : Live := onCounts n (fun c => { c with hit := countUp c.hit countMax }) l

def countShort (n : Nat) (l : Live) : Live := onCounts n (fun c => { c with short := countUp c.short countMax }) l

def countNa (n : Nat) (l : Live) : Live := onCounts n (fun c => { c with na := countUp c.na countMax }) l

def countUnclaimed (l : Live) : Live :=
  { l with classifier := { l.classifier with unclaimed := countUp l.classifier.unclaimed countMax } }

/-- The scan position moves on. -/
def scanAt (position : Nat) (l : Live) : Live :=
  { l with classifier := { l.classifier with scan := l.classifier.scan.map fun s => { s with position := position } } }

/-- A LATCH rule acts: extraction, the not-available test, scaling and the offer (R20, R28). -/
def latchRule (img : Bank) (n : Nat) (r : Rule) (f : RxFrame) (l : Live) : Live :=
  let raw := rawBits r f.data
  if notAvailable r raw then countNa n l
  else countHit n (offerSlot img r.slot (scaled r (signRead r raw)) r.rank l)

/-- A matching rule takes the frame (R19); the flag says whether the scan goes on behind it (R20). -/
def ruleTakes (img : Bank) (n : Nat) (r : Rule) (f : RxFrame) (l : Live) : Live × Bool :=
  if f.data.length < r.minLen then (countShort n l, false)
  else if r.veto then (countHit n l, false)
  else (latchRule img n r f l, r.chain)

/-- The rules from `n` on, `left` of them, of the table fixed for the frame (R14, R18): the flag `taken` says whether any
rule has taken the frame, and a frame that none takes is UNCLAIMED (R21). -/
def scanRules (img table : Bank) (f : RxFrame) : Nat → Nat → Bool → Live → Live
  | 0, _, taken, l => if taken then l else countUnclaimed l
  | left + 1, n, taken, l =>
    let r := ruleAt table n
    if r.matches f then
      let (l, more) := ruleTakes img n r f l
      if more then scanRules img table f left (n + 1) true (scanAt (n + 1) l) else l
    else scanRules img table f left (n + 1) taken l

/-- The classifier takes the head of the receive queue (R15). -/
def startScan (img : Bank) (f : RxFrame) (rest : List RxFrame) (l : Live) : Live :=
  { l with
    port := { l.port with rxQueue := rest }
    classifier := { l.classifier with state := .scanning, scan := some { frame := f, table := img, position := 0 } } }

/-- The scan of the frame has ended: IDLE again, or STOPPED in WATCH (R15, R16). -/
def endScan (l : Live) : Live :=
  { l with classifier := { l.classifier with
      state := if l.part.state = .watch then .stopped else .idle, scan := none } }

/-- The classifier runs in every part state but WATCH (R15). -/
def classifierRuns (l : Live) : Bool := l.part.state != .watch && l.classifier.state == .idle

/-- The head of the receive queue is removed and scanned whole (R15). -/
def scanHead (img : Bank) (l : Live) : Live :=
  match l.port.rxQueue with
  | [] => l
  | f :: rest =>
    if classifierRuns l then endScan (scanRules img img f ruleCount 0 false (startScan img f rest l)) else l

end Sys2Proof.Machine
end

