-- ==== Sys2Proof/Machine/Validation.lean ====
section
/-! DEFINITION. The validation of the records of a bank (R30, R48, R70, R95, R110, R114, R164). -/

namespace Sys2Proof.Machine

/-- An identifier or mask has no bit above those its format has (R30, R164). -/
def fitsFormat (f : FrameFormat) (n : Nat) : Bool :=
  match f with
  | .base => decide (n < 2048)
  | .extended => decide (n < 536870912)

/-- The field checks of an enabled LATCH rule (R30). -/
def Rule.fieldOk (r : Rule) : Bool :=
  decide (1 ≤ r.width) && decide (r.width ≤ 16) && decide (ceilDiv (r.start + r.width) 8 ≤ r.minLen) &&
    (!r.big || (r.start % 8 == 0 && (r.width == 8 || r.width == 16)))

/-- A rule record passes (R30). -/
def Rule.ok (r : Rule) : Bool :=
  !r.enabled ||
    (decide (r.minLen ≤ 8) && fitsFormat r.format r.ident && fitsFormat r.format r.mask && (r.veto || r.fieldOk))

/-- A byte that holds one of the codes for yes and no (R187). -/
def yesNo (n : Nat) : Bool := n == 0 || n == 1

/-- A slot definition passes (R48). -/
def slotRecordOk (img : Bank) (n : Fin 32) : Bool :=
  let d := slotDef img n
  let range := slotRange n.val
  yesNo (u8 img (slotDefAddress n.val)) && decide (range.1 ≤ d.lo) && decide (d.hi ≤ range.2) && decide (d.lo ≤ d.hi) &&
    decide (d.lo ≤ d.default) && decide (d.default ≤ d.hi) && decide (1 ≤ d.maxAge)

/-- The serial of binding record `n`, 0 to 23 (R113, R114). -/
def recordSerial (img : Bank) (n : Nat) : Nat := u32 img (bindingAddress n)

/-- The channel of binding record `n`. -/
def recordChannel (img : Bank) (n : Nat) : Nat := bits (u8 img (bindingAddress n + 4)) 0 4

/-- An earlier record among the 20 bindings has the same serial and channel (R114). -/
def repeated (img : Bank) (n : Nat) : Bool :=
  (List.range n).any fun m => recordSerial img m == recordSerial img n && recordChannel img m == recordChannel img n

/-- A binding record, or one of records 4 to 7 of page 17, passes (R114). -/
def bindingRecordOk (img : Bank) (n : Nat) : Bool :=
  let serial := recordSerial img n
  let travel := u16 img (bindingAddress n + 6)
  serial == 0 ||
    (serial != 0xFFFFFFFF && decide (recordChannel img n ≤ 3) && decide (5 ≤ travel) && decide (travel ≤ 600) &&
      decide (u8 img (bindingAddress n + 5) ≤ 100) && yesNo (bits (u8 img (bindingAddress n + 4)) 4 4) &&
      (decide (20 ≤ n) || !repeated img n))

/-- A temperature lies within its range. -/
def temperatureOk (t : Int) : Bool := decide (-400 ≤ t) && decide (t ≤ 1500)

/-- A zone profile passes (R95). -/
def profileOk (img : Bank) (z : Fin 4) : Bool :=
  let p := profile img z
  yesNo (u8 img (profileAddress z.val)) && temperatureOk p.sLo && temperatureOk p.sHi &&
    decide (p.sLo ≤ p.setpoint) && decide (p.setpoint ≤ p.sHi) && decide (p.wmin ≤ p.wmax) && decide (p.wmax ≤ 1000) &&
    decide (p.ilim ≤ 8000)

/-- A wake pattern record passes (R164). -/
def wakeOk (img : Bank) (k : Fin 4) : Bool :=
  let w := wakePattern img k
  !w.enabled || (fitsFormat w.format w.ident && fitsFormat w.format w.mask)

/-- Every number of a list is a level or per-mille. -/
def permilles (l : List Nat) : Bool := l.all fun n => decide (n ≤ 1000)

/-- The air source fields of page 19 pass (R70). -/
def airFieldsOk (img : Bank) : Bool :=
  allHeads.all (fun k => decide (hazeWeight img k ≤ 512)) &&
  permilles [shieldOn img, closeOn img, closeOff img, clearBelow img, freshNominal img, freshMin img, shieldFraction img,
    boostLevel img, shieldFloorMin img, shieldStep img, ingressLimit img] &&
  decide (1 ≤ purgeTime img) && decide (1 ≤ purgeLimitTime img) && temperatureOk (coldLimit img) &&
  temperatureOk (hotLimit img) && decide (-500 ≤ pressureTarget img) && decide (pressureTarget img ≤ 500) &&
  decide (pressureBand img ≤ 1000) && decide (clearBelow img < shieldOn img) && decide (shieldOn img ≤ closeOn img) &&
  decide (closeOff img < closeOn img) && decide (freshMin img ≤ freshNominal img) &&
  decide (coldLimit img ≤ hotLimit img) && decide (purgeTime img ≤ purgeLimitTime img) &&
  decide (pressureTarget img + (pressureBand img : Int) ≤ 500)

/-- The planner's fields of page 19 pass (R95). -/
def plannerFieldsOk (img : Bank) : Bool :=
  decide (100 ≤ planPeriod img) && decide (planPeriod img ≤ 2000) && temperatureOk (coolantMin img) &&
  decide (coreDrop img ≤ 500) && decide (1 ≤ stageRise img) && decide (stageRise img ≤ 200) &&
  decide (1 ≤ spanMin img) && decide (spanMin img ≤ 500) && temperatureOk (defrostAuto img)

/-- The budget's fields of page 19 pass (R110). -/
def budgetFieldsOk (img : Bank) : Bool :=
  decide (baseBudget img ≤ 2000) && decide (bandHi img ≤ 400) && decide (bandMid img ≤ 400) && decide (bandLo img ≤ 400) &&
  decide (bandLo img ≤ bandMid img) && decide (bandMid img ≤ bandHi img) &&
  allZones.all (fun z => decide (blowerRated img z ≤ 2000)) && decide (stageCurrent img ≤ 2000) &&
  decide (motionCurrent img ≤ 2000)

/-- The timing fields of page 19 pass (R114, R177, R181). -/
def timingFieldsOk (img : Bank) : Bool :=
  decide (10 ≤ pollInterval img) && decide (pollInterval img ≤ 1000) && decide (100 ≤ statusPeriod img) &&
  decide (statusPeriod img ≤ 10000) && decide (1000 ≤ watchDelay img) && decide (watchDelay img ≤ 600000)

/-- Page 19, its one record, passes (R164). -/
def parametersOk (img : Bank) : Bool :=
  airFieldsOk img && plannerFieldsOk img && budgetFieldsOk img && timingFieldsOk img

/-- The records of an image with their checks, in page and record order (R164). -/
def recordChecks (img : Bank) : List ((Nat × Nat) × (Unit → Bool)) :=
  ((List.range 96).map fun n => ((n / 8, n % 8), fun _ => (ruleAt img n).ok)) ++
  (allSlots.map fun n => ((12 + n.val / 8, n.val % 8), fun _ => slotRecordOk img n)) ++
  ((List.range 24).map fun n => ((16 + n / 16, n % 16), fun _ => bindingRecordOk img n)) ++
  (allZones.map fun z => ((18, z.val), fun _ => profileOk img z)) ++
  (allZones.map fun k => ((18, 4 + k.val), fun _ => wakeOk img k)) ++
  [((19, 0), fun _ => parametersOk img)]

/-- The page and record of the first record that fails, none where all pass (R164). -/
def firstInvalid (img : Bank) : Option (Nat × Nat) :=
  ((recordChecks img).find? fun c => !c.2 ()).map (·.1)

/-- Every record of an image passes. -/
def imageValid (img : Bank) : Bool := (firstInvalid img).isNone

end Sys2Proof.Machine
end

