-- ==== Sys2Proof/Machine/Management.lean ====
section
/-! DEFINITION. The management unit (chapter 9): how a request is taken, and what the requests on the blocks, the link and
the events do and report (R158, R170, R171, R185). -/

namespace Sys2Proof.Machine

/-! ### Taking a request (R158) -/

/-- The live part changed. -/
def State.onLive (f : Live → Live) (s : State) : State := { s with live := f s.live }

/-- The management unit's own state changed. -/
def onManagement (f : Management → Management) (l : Live) : Live := { l with management := f l.management }

/-- A reply to a request is placed (R158, R185). -/
def answer (code : Byte) (result : Nat) (data : List Byte) (s : State) : State := s.onLive (reply code result data)

/-- The arrival of a request ends WATCH (R2, R183). -/
def wakeForRequest (s : State) : State :=
  if s.live.part.state = .watch then s.onLive (enterWaking s.active) else s

/-- The rule-range sequence becomes IDLE (R166). -/
def resetRange (s : State) : State := s.onLive (onManagement fun m => { m with ruleRange := .idle })

/-- A request's effect where the unit is free, and BUSY where a completion request is in progress (R158). -/
def orBusy (code : Byte) (body : State → State) (s : State) : State :=
  if s.live.management.inProgress.isSome then answer code rBusy [] s else body s

/-- A request is taken: not while the part is held in reset, nor while the port is off the bus and receives no frame (R11,
R13); in WATCH it wakes the part first; the body is its effect and
reply. In WAKING with the link FAILED the part then enters RUN (R156). -/
def takeRequest (body : State → State) (s : State) : State :=
  if s.held ∨ s.live.port.onBus = false then s
  else
    let s := body (wakeForRequest s)
    s.onLive (wakeCheck s.active)

/-- A request that keeps the rule-range sequence: IDENTIFY, READ_ requests, CHECK_PENDING, and the sequence's own four
(R166). -/
def requestKeeping (code : Byte) (body : State → State) (s : State) : State := takeRequest (orBusy code body) s

/-- Any other request: the rule-range sequence becomes IDLE with it (R166). -/
def request (code : Byte) (body : State → State) (s : State) : State :=
  takeRequest (orBusy code fun t => resetRange (body t)) s

/-! ### Codes and absent fields (R185) -/

/-- A byte field for something absent. -/
def absentByte : Byte := 0xFF

/-- A 16-bit field for something absent. -/
def absentWord : List Byte := [0xFF, 0xFF]

/-- A 16-bit field, or the absent field. -/
def wordOr : Option Nat → List Byte
  | some n => bytes16 n
  | none => absentWord

def Belief.code : Belief → Nat
  | .never => 0
  | .fresh => 1
  | .stale => 2
  | .lapsed => 3

/-- The slot's state as it is reported: FORCED is 4. -/
def slotStateCode (s : Slot) : Nat := if s.forced.isSome then 4 else s.belief.code

def ActuatorState.code : ActuatorState → Nat
  | .absent => 0
  | .uncertain => 1
  | .homing => 2
  | .idle => 3
  | .queued => 4
  | .moving => 5
  | .suspended => 6
  | .offline => 7
  | .faulted => 8

def NodeState.code : NodeState → Nat
  | .bound => 0
  | .spare => 1
  | .lost => 2
  | .excluded => 3

def PortState.code : PortState → Nat
  | .errorActive => 0
  | .errorPassive => 1
  | .offline => 2

def faultCode : Option FaultReason → Nat
  | none => 0
  | some .stall => 1
  | some .refused => 2
  | some .nodeFault => 3

def StartCause.code : StartCause → Nat
  | .powerOn => 0
  | .resetPin => 1
  | .restart => 2

/-- The class of a target, 0 NORMAL and 1 URGENT, or the absent field. -/
def classByte : Option Target → Byte
  | some t => byte (flag t.urgent)
  | none => absentByte

/-! ### IDENTIFY (R171) -/

/-- The report of IDENTIFY (R171, R185). -/
def identifyData (s : State) : List Byte :=
  let l := s.live
  [byte (l.port.unit.toNat + 16 * flag l.port.fast + 32 * l.part.cause.code), byte l.part.state.code] ++
    bytes16 (bankCheck s.active) ++
    [byte (flag l.management.saving.isSome), byte l.management.protectSet.toNat]

/-! ### Slots (R45, R47, R50) -/

/-- The slot that a number names. -/
def slotNumber (n : Nat) : Option (Fin 32) := if h : n < 32 then some ⟨n, h⟩ else none

/-- The age in units of 100 ms, rounded down (R35). -/
def ageReport (now : Nat) (s : Slot) : Nat := slotAge now s / 100

/-- READ_SLOT, part 0 (R50, R185). -/
def slotReport0 (img : Bank) (l : Live) (n : Fin 32) : List Byte :=
  let s := slotOf l n
  [byte (slotStateCode s), byte s.rank] ++ bytes16 (code16 (seen img l n).value) ++ bytes16 (ageReport l.now s)

/-- READ_SLOT, part 1 (R50, R185): the underlying fields of a FORCED slot, absent fields for another. -/
def slotReport1 (l : Live) (n : Fin 32) : List Byte :=
  let s := slotOf l n
  [byte (flag s.clamped), byte s.clampCount, byte s.outranked] ++
    (if s.forced.isSome then byte s.belief.code :: bytes16 (code16 s.value) else absentByte :: absentWord)

/-- READ_SLOT (R50, R170). -/
def readSlotBody (slot part : Nat) (s : State) : State :=
  match slotNumber slot with
  | none => answer 0x10 rRange [] s
  | some n =>
    if part = 0 then answer 0x10 rDone (slotReport0 s.active s.live n) s
    else if part = 1 then answer 0x10 rDone (slotReport1 s.live n) s
    else answer 0x10 rRange [] s

/-- FORCE_SLOT (R45, R170). -/
def forceSlotBody (slot : Nat) (value : Int) (s : State) : State :=
  match slotNumber slot with
  | none => answer 0x11 rRange [] s
  | some n =>
    let d := slotDef s.active n
    if d.lo ≤ value ∧ value ≤ d.hi then answer 0x11 rDone [] (s.onLive (forceSlotTo s.active n value))
    else answer 0x11 rRange [] s

/-- RELEASE_SLOT (R47, R170). -/
def releaseSlotBody (slot : Nat) (s : State) : State :=
  match slotNumber slot with
  | none => answer 0x12 rRange [] s
  | some n => answer 0x12 rDone [] (s.onLive (releaseSlotOf s.active n))

/-! ### Actuators (R133) -/

/-- The role that a number names. -/
def roleNumber (n : Nat) : Option Role := if h : n < 20 then some ⟨n, h⟩ else none

/-- Which collection holds an actuator's work (R185). -/
def holderCode (l : Live) (r : Role) : Nat :=
  if (queueEntry l r).isSome then 1
  else if (itemOf l r).isSome then 2
  else if l.sequencer.suspended.any fun m => m.role == r then 3
  else 0

/-- READ_ACTUATOR, part 0 (R133, R185). -/
def actuatorReport0 (l : Live) (r : Role) : List Byte :=
  let a := actuator l r
  [byte a.state.code, byte (holderCode l r)] ++ bytes16 a.position ++ wordOr (a.target.map (·.level))

/-- READ_ACTUATOR, part 1 (R133, R185). -/
def actuatorReport1 (l : Live) (r : Role) : List Byte :=
  let a := actuator l r
  [classByte a.target] ++ wordOr (a.pendingTarget.map (·.level)) ++
    [classByte a.pendingTarget, byte a.overruns, byte (faultCode a.fault)]

/-- READ_ACTUATOR (R133, R170). -/
def readActuatorBody (role part : Nat) (s : State) : State :=
  match roleNumber role with
  | none => answer 0x18 rRange [] s
  | some r =>
    if part = 0 then answer 0x18 rDone (actuatorReport0 s.live r) s
    else if part = 1 then answer 0x18 rDone (actuatorReport1 s.live r) s
    else answer 0x18 rRange [] s

/-- CLEAR_FAULT (R133, R170). -/
def clearFaultBody (role : Nat) (s : State) : State :=
  match roleNumber role with
  | none => answer 0x19 rRange [] s
  | some r => answer 0x19 rDone [] (s.onLive (clearFaultOf s.active r))

/-! ### Nodes (R146, R148) -/

/-- An address from 1 to 16. -/
def isAddress (a : Nat) : Bool := decide (1 ≤ a) && decide (a ≤ 16)

/-- READ_NODE, part 0 (R146, R185). -/
def nodeReport0 : Option Node → List Byte
  | some n => bytes32 n.serial ++ [byte n.kind, byte n.state.code]
  | none => List.replicate 6 absentByte

/-- READ_NODE, part 1 (R146, R185). -/
def nodeReport1 : Option Node → List Byte
  | some n => [byte n.consecutive, byte n.total]
  | none => [absentByte, absentByte]

/-- READ_NODE (R146, R170). -/
def readNodeBody (address part : Nat) (s : State) : State :=
  if !isAddress address then answer 0x1C rRange [] s
  else if part = 0 then answer 0x1C rDone (nodeReport0 (s.live.link.nodeAt address)) s
  else if part = 1 then answer 0x1C rDone (nodeReport1 (s.live.link.nodeAt address)) s
  else answer 0x1C rRange [] s

/-- EXCLUDE_NODE (R148, R170); in SETTLING it may take away the last work that the sequencer had (R134). -/
def excludeNodeBody (address : Nat) (s : State) : State :=
  match if isAddress address then s.live.link.nodeAt address else none with
  | none => answer 0x1D rRange [] s
  | some n => answer 0x1D rDone [] (s.onLive fun l => settleCheck (excludeEntry s.active n l))

/-- ADMIT_NODE (R148, R170). -/
def admitNodeBody (address : Nat) (s : State) : State :=
  match if isAddress address then s.live.link.nodeAt address else none with
  | none => answer 0x1E rRange [] s
  | some n => answer 0x1E rDone [] (s.onLive (admitEntry n))

/-! ### The node access window (R155, R170) -/

/-- Bytes of the window written from an offset, wrapping from 15 to 0 (R170). -/
def windowWrite : List Byte → Nat → Vector Byte 16 → Vector Byte 16
  | [], _, w => w
  | v :: rest, off, w => windowWrite rest (off + 1) (w.set (off % 16) v (Nat.mod_lt _ (by decide)))

/-- Bytes of the window read from an offset, wrapping (R170). -/
def windowRead (w : Vector Byte 16) (off : Nat) : Nat → List Byte
  | 0 => []
  | n + 1 => w[off % 16]'(Nat.mod_lt _ (by decide)) :: windowRead w (off + 1) n

/-- WINDOW_PUT (R170). -/
def windowPutBody (offset count : Nat) (data : List Byte) (s : State) : State :=
  if 15 < offset ∨ count = 0 ∨ 5 < count then answer 0x3A rRange [] s
  else answer 0x3A rDone []
    (s.onLive (Live.onLinkBlock fun k => { k with window := windowWrite (data.take count) offset k.window }))

/-- WINDOW_GET (R170). -/
def windowGetBody (offset : Nat) (s : State) : State :=
  if 15 < offset then answer 0x3B rRange [] s
  else answer 0x3B rDone (windowRead s.live.link.window offset 6) s

/-- An access that ends at once: its outcome, or none where a transaction is needed (R155). -/
def accessRefused (k : Link) (address register : Nat) : Option Nat :=
  if k.state = .failed then some rLinkDown
  else
    match k.nodeAt address with
    | none => some rNoReply
    | some n =>
      if n.state = .lost ∨ n.state = .excluded then some rNoReply
      else if 255 < register ∧ n.kind < 128 then some rNodeRefused
      else none

/-- The register address takes 2 bytes for the node at an address (R141). -/
def wideRegister (k : Link) (address : Nat) : Bool := (k.nodeAt address).any fun n => decide (128 ≤ n.kind)

/-- An access is in progress and its request waits in the list (R155). -/
def beginAccess (kind : Completion) (address : Nat) (command : LinkCommand) (l : Live) : Live :=
  placeRequest .window address command .window (onManagement (fun m => { m with inProgress := some kind }) l)

/-- NODE_READ (R155, R170). -/
def nodeReadBody (address register count : Nat) (s : State) : State :=
  if !isAddress address ∨ count = 0 ∨ 16 < count then answer 0x38 rRange [] s
  else
    match accessRefused s.live.link address register with
    | some result => answer 0x38 result [] s
    | none =>
      s.onLive (beginAccess .nodeRead address (.read (wideRegister s.live.link address) register count))

/-- NODE_WRITE (R155, R170): the window's first bytes as they stand at its arrival. -/
def nodeWriteBody (address register count : Nat) (s : State) : State :=
  if !isAddress address ∨ count = 0 ∨ 16 < count then answer 0x39 rRange [] s
  else
    match accessRefused s.live.link address register with
    | some result => answer 0x39 result [] s
    | none =>
      s.onLive (beginAccess .nodeWrite address
        (.write (wideRegister s.live.link address) register (windowRead s.live.link.window 0 count)))

/-! ### Events (R174, R175) -/

/-- The kind that a number names. -/
def kindNumber (n : Nat) : Option Kind := if h : n < 22 then some ⟨n, h⟩ else none

/-- A set that names kinds only: bits 22 to 31 clear (R185). -/
def kindsOnly (kinds : BitVec 32) : Bool := decide (kinds.toNat < 2 ^ 22)

/-- The two bytes of a latch parameter; for one above 65,535 the spec states no value. -/
def parameterBytes (n : Nat) : List Byte := bytes16 (if n < 65536 then n else (Config.wideParameter n).toNat)

/-- READ_EVENTS, part 0 (R174, R185). -/
def eventReport0 (l : Live) : List Byte := bytesLE l.events.latchedSet 3 ++ bytesLE (presentSet l) 2

/-- READ_EVENTS, part 1 (R174, R185). -/
def eventReport1 (l : Live) (k : Kind) : List Byte :=
  bytesLE l.events.mask.toNat 3 ++ parameterBytes ((l.events.latched.get k).getD 0)

/-- READ_EVENTS (R174). -/
def readEventsBody (kind part : Nat) (s : State) : State :=
  match kindNumber kind with
  | none => answer 0x40 rRange [] s
  | some k =>
    if part = 0 then answer 0x40 rDone (eventReport0 s.live) s
    else if part = 1 then answer 0x40 rDone (eventReport1 s.live k) s
    else answer 0x40 rRange [] s

/-- CLEAR_EVENTS (R174). -/
def clearEventsBody (kinds : BitVec 32) (s : State) : State :=
  if kindsOnly kinds then answer 0x41 rDone [] (s.onLive (clearLatches kinds)) else answer 0x41 rRange [] s

/-- SET_EVENT_MASK (R175). -/
def setEventMaskBody (kinds : BitVec 32) (s : State) : State :=
  if kindsOnly kinds then
    answer 0x42 rDone [] (s.onLive fun l => { l with events := { l.events with mask := kinds.setWidth 22 } })
  else answer 0x42 rRange [] s

/-- FORCE_EVENT (R174). -/
def forceEventBody (kind : Nat) (s : State) : State :=
  match kindNumber kind with
  | none => answer 0x43 rRange [] s
  | some k => answer 0x43 rDone [] (s.onLive (latch k 0))

/-! ### Counters (R178) -/

/-- READ_COUNTERS of a rule (R178). -/
def ruleCounters (l : Live) (n : Nat) : Option (List Byte) :=
  if h : n < 96 then
    let c := l.classifier.counts.get ⟨n, h⟩
    some (bytes16 c.hit ++ bytes16 c.short ++ bytes16 c.na)
  else none

/-- READ_COUNTERS of a slot (R178). -/
def slotCounters (l : Live) (n : Nat) : Option (List Byte) :=
  (slotNumber n).map fun k => [byte (slotOf l k).clampCount, byte (slotOf l k).outranked]

/-- READ_COUNTERS of a node (R178). -/
def nodeCounters (l : Live) (address : Nat) : Option (List Byte) :=
  if isAddress address then
    match l.link.nodeAt address with
    | some n => some [byte n.total, byte n.consecutive]
    | none => some [absentByte, absentByte]
  else none

/-- READ_COUNTERS of the port (R178, R185). -/
def portCounters (l : Live) (index part : Nat) : Option (List Byte) :=
  if index ≠ 0 then none
  else if part = 0 then some (bytes16 l.classifier.unclaimed ++ bytes16 l.port.rxDropped)
  else some (bytes16 l.port.txErrors ++ [byte l.port.rxErrors, byte l.port.state.code])

/-- The counters that a group and an index name, none where they name none (R178). -/
def counterReport (l : Live) (group index part : Nat) : Option (List Byte) :=
  if 1 < part then none
  else match group with
    | 0 => ruleCounters l index
    | 1 => slotCounters l index
    | 2 => nodeCounters l index
    | 3 => portCounters l index part
    | _ => none

/-- READ_COUNTERS (R178). -/
def readCountersBody (group index part : Nat) (s : State) : State :=
  match counterReport s.live group index part with
  | some data => answer 0x48 rDone data s
  | none => answer 0x48 rRange [] s

/-- Every counter of R178 becomes 0. -/
def clearAllCounters (l : Live) : Live :=
  { l with
    classifier := { l.classifier with
      counts := mapAll (fun _ => { hit := 0, short := 0, na := 0 }) l.classifier.counts, unclaimed := 0 }
    port := { l.port with rxDropped := 0 }
    slots := mapAll (fun s => { s with clampCount := 0, outranked := 0 }) l.slots
    link := { l.link with directory := l.link.directory.map fun n => { n with total := 0 } } }

/-- CLEAR_COUNTERS (R178). -/
def clearCountersBody (s : State) : State := answer 0x49 rDone [] (s.onLive clearAllCounters)

/-! ### SLEEP and RESTART (R171) -/

/-- SLEEP (R171, R181): in RUN the way to SETTLING, which may lead to WATCH at once. -/
def sleepBody (s : State) : State :=
  match s.live.part.state with
  | .run => (answer 0x50 rDone [] s).onLive fun l => settleCheck (askSettle s.active l)
  | .settling => answer 0x50 rDone [] s
  | _ => answer 0x50 rSequence [] s

/-- The time after its reply at which RESTART starts the part, in milliseconds (R171). -/
def restartDelay : Nat := 20

/-- RESTART (R171): the start follows the reply. -/
def restartBody (s : State) : State :=
  (answer 0x51 rDone [] s).onLive fun l =>
    { l with part := { l.part with
        restartTimer := match l.part.restartTimer with
          | some t => some t
          | none => some (l.now + restartDelay) } }

end Sys2Proof.Machine
end

