-- ==== Sys2Proof/Machine/Images.lean ====
section
/-! DEFINITION. The table images (chapter 9): loading, activation, the rule-range clear, protection and the store. -/

namespace Sys2Proof.Machine

/-! ### Protection and the interlock (R159, R160) -/

/-- The protect group of a page (R160). -/
def pageGroup (page : Nat) : Nat :=
  if page ≤ 11 then 0
  else if page ≤ 15 then 1
  else if page ≤ 17 then 2
  else 3

/-- A group is in the protect set. -/
def isProtected (m : Management) (group : Nat) : Bool := m.protectSet.getLsbD group

/-- The slots of the service interlock (R33). -/
def pumpSlot : Fin 32 := 14
def brakeSlot : Fin 32 := 15

/-- The service interlock (R159). -/
def interlock (img : Bank) (l : Live) : Bool := (seen img l brakeSlot).isTrue && (seen img l pumpSlot).isFalse

/-! ### Loading (R162, R163) -/

/-- LOAD_POINT (R162). Where both refusals hold the spec names no order: the model tests RANGE first, log entry 39. -/
def loadPointBody (page offset : Nat) (s : State) : State :=
  if 19 < page ∨ 127 < offset then answer 0x20 rRange [] s
  else if isProtected s.live.management (pageGroup page) then answer 0x20 rProtected [] s
  else answer 0x20 rDone [] (s.onLive (onManagement fun m => { m with pointer := some (page, offset) }))

/-- LOAD_DATA (R162). -/
def loadDataBody (count : Nat) (data : List Byte) (s : State) : State :=
  if count = 0 ∨ 6 < count then answer 0x21 rRange [] s
  else
    match s.live.management.pointer with
    | none => answer 0x21 rSequence [] s
    | some (page, off) =>
      if isProtected s.live.management (pageGroup page) then answer 0x21 rProtected [] s
      else
        let r := writeWrapped s.loading page off (data.take count)
        let s := s.onLive (onManagement fun m => { m with pointer := some (page, r.2) })
        answer 0x21 rDone [byte page, byte r.2] { s with loading := r.1 }

/-- READ_PAGE (R163). -/
def readPageBody (bank page offset : Nat) (s : State) : State :=
  if 19 < page ∨ 127 < offset then answer 0x22 rRange [] s
  else if bank = 0 then answer 0x22 rDone (readWrapped s.active page offset 6) s
  else if bank = 1 then answer 0x22 rDone (readWrapped s.loading page offset 6) s
  else answer 0x22 rRange [] s

/-- COPY_ACTIVE (R163). -/
def copyActiveBody (s : State) : State :=
  answer 0x23 rDone (bytes16 (bankCheck s.active)) { s with loading := s.active }

/-- CHECK_PENDING (R163). -/
def checkPendingBody (s : State) : State :=
  answer 0x24 rDone (bytes16 (bankCheck s.loading) ++ bytes16 (bankCheck s.active)) s

/-! ### Activation (R164, R165) -/

/-- The load budget takes a new image (R110): avail worked out again, a room notice where it rose, and the test for
shedding. R110 gives the notice no place beside the test: that it comes first is the model's choice, log entry 9. -/
def budgetActivates (img : Bank) (l : Live) : Live :=
  let old := l.budget.avail
  let l := workOutAvail img l
  testShed img (if old < l.budget.avail then roomNotice img l else l)

/-- The blocks take the new image, in the order of R165, and IMAGE_ACTIVATED is latched. -/
def handOver (old img : Bank) (l : Live) : Live :=
  let l := slotsActivate old img l
  let l := l.onLinkBlock (directoryActivates img)
  let l := budgetActivates img (sequencerActivates old img l)
  let l := airActivates img { l with planner := plannerActivates old img l.planner }
  latch kImageActivated (bankCheck img) l

/-- ACTIVATE (R164, R165). -/
def activateBody (check : Nat) (s : State) : State :=
  if s.live.management.saving.isSome then answer 0x25 rSaving [] s
  else if !interlock s.active s.live then answer 0x25 rInService [] s
  else if bankCheck s.loading ≠ check then answer 0x25 rCheckMismatch (bytes16 (bankCheck s.loading)) s
  else
    match firstInvalid s.loading with
    | some (page, record) => answer 0x25 rInvalidRecord [byte page, byte record] s
    | none =>
      answer 0x25 rDone (bytes16 (bankCheck s.loading))
        { s with active := s.loading, live := settleCheck (handOver s.active s.loading s.live) }

/-! ### The rule-range clear (R166) -/

def setRange (r : RuleRange) (s : State) : State := s.onLive (onManagement fun m => { m with ruleRange := r })

/-- A request of the sequence is refused and leaves it IDLE (R166). -/
def refuseRange (code : Byte) (result : Nat) (s : State) : State := answer code result [] (setRange .idle s)

/-- MARK_FIRST (R166). -/
def markFirstBody (n : Nat) (s : State) : State :=
  if n ≤ 95 then answer 0x30 rDone [] (setRange (.first n) s) else refuseRange 0x30 rRange s

/-- MARK_LAST (R166). -/
def markLastBody (n : Nat) (s : State) : State :=
  match s.live.management.ruleRange with
  | .first f =>
    if f ≤ n ∧ n ≤ 95 then answer 0x31 rDone [] (setRange (.range f n []) s) else refuseRange 0x31 rRange s
  | _ => refuseRange 0x31 rSequence s

/-- The places of the keep list (R166). -/
def keepPlaces : Nat := 8

/-- KEEP (R166). -/
def keepBody (n : Nat) (s : State) : State :=
  match s.live.management.ruleRange with
  | .range f l kept =>
    if n < f ∨ l < n then refuseRange 0x32 rRange s
    else if n ∈ kept then answer 0x32 rDone [] s
    else if keepPlaces ≤ kept.length then refuseRange 0x32 rRange s
    else answer 0x32 rDone [] (setRange (.range f l (kept ++ [n])) s)
  | _ => refuseRange 0x32 rSequence s

/-- The rules from f to l that are not kept (R166). -/
def markedRules (f l : Nat) (kept : List Nat) : List Nat :=
  (List.range (l + 1)).filter fun n => decide (f ≤ n) && !decide (n ∈ kept)

/-- A rule's enabled field set to no: bit 0 of its byte 0 (R166, R187). -/
def disableRule (b : Bank) (n : Nat) : Bank := writeByte b (16 * n) (readByte b (16 * n) &&& 0xFE)

/-- CLEAR_MARKED (R166). -/
def clearMarkedBody (s : State) : State :=
  match s.live.management.ruleRange with
  | .range f l kept =>
    if isProtected s.live.management 0 then refuseRange 0x33 rProtected s
    else
      let rules := markedRules f l kept
      answer 0x33 rDone [byte rules.length] (setRange .idle { s with loading := rules.foldl disableRule s.loading })
  | _ => refuseRange 0x33 rSequence s

/-! ### Protection (R167) -/

/-- The write of the store word begins (R167). -/
def beginProtect (kind : Completion) (s : State) : State :=
  s.onLive (onManagement fun m => { m with inProgress := some kind })

/-- PROTECT (R167). Where several refusals hold the spec names no order: the model tests RANGE first and then SAVING, log
entry 39. -/
def protectBody (groups : Nat) (s : State) : State :=
  if 15 < groups then answer 0x28 rRange [] s
  else if s.live.management.saving.isSome then answer 0x28 rSaving [] s
  else beginProtect (.protect (s.live.management.protectSet ||| BitVec.ofNat 4 groups)) s

/-- UNPROTECT (R167). Where several refusals hold the spec names no order: the model tests RANGE first, then SAVING, then
IN_SERVICE, log entry 39. -/
def unprotectBody (groups : Nat) (s : State) : State :=
  if 15 < groups then answer 0x29 rRange [] s
  else if s.live.management.saving.isSome then answer 0x29 rSaving [] s
  else if !interlock s.active s.live then answer 0x29 rInService [] s
  else beginProtect (.unprotect (s.live.management.protectSet &&& ~~~(BitVec.ofNat 4 groups))) s

/-- The store word is written: it and the working set become the new set, and the request is answered (R167). -/
def finishProtect (code : Byte) (set : BitVec 4) (s : State) : State :=
  let s := s.onLive (onManagement fun m => { m with inProgress := none, protectSet := set })
  answer code rDone [byte set.toNat] { s with store := { s.store with protectSet := set } }

/-- The end of the store word's write (R167). -/
def protectWritten (s : State) : State :=
  match s.live.management.inProgress with
  | some (.protect set) => finishProtect 0x28 set s
  | some (.unprotect set) => finishProtect 0x29 set s
  | _ => s

/-! ### Saving (R168) -/

/-- The item of a save after the 20 pages: the check. -/
def checkItem : Nat := 20

/-- The item of a save after the check: the read-back. -/
def readBackItem : Nat := 21

/-- SAVE (R168). From now until the check is programmed the store's check fits no image. -/
def saveBody (s : State) : State :=
  if s.live.management.saving.isSome then answer 0x26 rSaving [] s
  else
    let s := { s with store := { s.store with check := none } }
    answer 0x26 rStarted [] (s.onLive (onManagement fun m => { m with saving := some 0 }))

/-- Cells written into a bank, those of one page only. -/
def writeCells (page : Nat) : List Host.Cell → Bank → Bank
  | [], b => b
  | (a, v) :: rest, b =>
    writeCells page rest (if a / 128 = page ∧ a < bankSize then writeByte b a v else b)

/-- The check word as it is programmed: the ACTIVE check, with the flaws at its bytes 0 and 1. -/
def programmedCheck (check : Nat) (flaws : List Host.Cell) : Nat :=
  let flawAt (k : Nat) (v : Byte) : Byte :=
    match flaws.find? fun c => c.1 == k with
    | some c => c.2
    | none => v
  (flawAt 0 (byte (check % 256))).toNat + 256 * (flawAt 1 (byte (check / 256))).toNat

/-- One item of the save has been programmed, with bytes that did not take (R168). -/
def programItem (flaws : List Host.Cell) (item : Nat) (s : State) : State :=
  let next := s.onLive (onManagement fun m => { m with saving := some (item + 1) })
  if item < checkItem then
    { next with store := { s.store with
        image := writeCells item flaws (copyBytes s.active (addressOf item 0) 128 s.store.image) } }
  else if item = checkItem then
    { next with store := { s.store with check := some (programmedCheck (bankCheck s.active) flaws) } }
  else s

/-- The first page of the store that disagrees with ACTIVE, 20 for the check, none where all agree (R168). -/
def firstDisagreement (s : State) : Option Nat :=
  match (List.range 20).find? fun p => !sameBytes s.store.image s.active (addressOf p 0) 128 with
  | some p => some p
  | none => if s.store.check = some (bankCheck s.active) then none else some checkItem

/-- The save has ended: IDLE, SAVE_DONE or SAVE_FAILED, and a settle request that waited for it (R168, R181). That
STORE_INVALID is brought up to date before the latch is the model's choice, log entry 42. -/
def finishSave (s : State) : State :=
  let img := s.active
  let found := firstDisagreement s
  s.onLive fun l =>
    let l := onManagement (fun m => { m with saving := none, storeInvalid := found.isSome }) l
    let l := match found with
      | none => latch kSaveDone (bankCheck img) l
      | some p => latch kSaveFailed p l
    let l := if l.part.settleRequest then enterSettling img l else l
    settleCheck l

/-- The read-back of a save ends (R168). -/
def readBackEnds (s : State) : State := if s.live.management.saving = some readBackItem then finishSave s else s

end Sys2Proof.Machine
end

