-- ==== Sys2Proof/Machine/Start.lean ====
section
/-! DEFINITION. The start of the part (R180) and the events that cause it. -/

namespace Sys2Proof.Machine

/-- What a step answers. -/
abbrev Result := Host.Outcome State Fault Refusal

/-! ### What a start cuts off -/

/-- The store word of a PROTECT or UNPROTECT whose write a start cuts off: "either the old set or the new one" (section
9.5). -/
def cutStoreWord (set : BitVec 4) (s : State) : State :=
  { s with
    cuts := s.cuts + 1
    store := { s.store with
      protectSet := if Config.storeWordWritten s.cuts then set else s.store.protectSet } }

/-- The start ends what was in progress at the store: a save stops where it stands, in its read-back too, and leaves no
check that fits; a store-word write is cut off (R168, R171, R172, R180). -/
def cutOff (s : State) : State :=
  let s := match s.live.management.inProgress with
    | some (.protect set) => cutStoreWord set s
    | some (.unprotect set) => cutStoreWord set s
    | _ => s
  let s := if s.live.management.saving.isSome then { s with store := { s.store with check := none } } else s
  s.onLive (onManagement fun m => { m with inProgress := none, saving := none })

/-! ### The start-up values (R180) -/

/-- The store is good: its check agrees and every record of it passes (R161, R180). -/
def storeGood (st : Store) : Bool := st.check == some (bankCheck st.image) && imageValid st.image

/-- The live part at its start-up values, from the image just loaded: R13, R32, R51, R72, R97, R111, R137, R157, R172,
R179, R180. -/
def startValues (img : Bank) (cause : StartCause) (straps : Straps) (protectSet : BitVec 4) (invalid : Bool) : Live :=
  { now := 0
    port := Port.initial straps
    classifier := Classifier.initial
    slots := Vector.ofFn fun n => Slot.initial (slotDef img n).default
    air := Air.initial (shieldFraction img) (shieldFloorMin img)
    planner := Planner.initial
    budget := Budget.initial (baseBudget img * 50 / 100)
    sequencer := Sequencer.initial
    link := Link.initial
    management := Management.initial protectSet invalid
    events := Events.initial (statusPeriod img)
    part := Part.initial cause }

/-- What follows the start-up values: STORE_INVALID where the default image was loaded (R179), and the first series
(R144). -/
def startSequence (invalid : Bool) (l : Live) : Live :=
  startSeries (if invalid then latch kStoreInvalid 0 l else l)

/-- The part starts with an image and a protect set. -/
def startWith (img : Bank) (cause : StartCause) (protectSet : BitVec 4) (invalid : Bool) (s : State) : State :=
  { s with
    active := img
    loading := img
    live := startSequence invalid (startValues img cause s.straps protectSet invalid) }

/-- The part starts: the store is read, and ACTIVE, PENDING and the protect set are loaded from it, or the default image
(R161, R180). -/
def startPart (cause : StartCause) (s : State) : State :=
  let s := cutOff s
  if storeGood s.store then startWith s.store.image cause s.store.protectSet false s
  else startWith [] cause 0 true s

/-! ### The reset pin (R180) -/

/-- The reset pin is held low: what was in progress ends, and nothing is taken until its release. -/
def holdReset (s : State) : State :=
  (cutOff s).onLive fun l =>
    { l with
      part := { l.part with resetHeld := true, restartTimer := none }
      classifier := { l.classifier with scan := none }
      link := { l.link with onLink := none, sent := false, replyWindow := none, attempting := false }
      port := { l.port with places := mapAll Place.unsent l.port.places } }

/-! ### The RESTART reply (R171) -/

/-- A frame is the reply DONE to RESTART. -/
def isRestartReply (f : TxFrame) : Bool := byteAt f.data 0 == 0x51 && byteAt f.data 1 == 0

/-- The frame on the bus is the reply to the RESTART that is to start the part. -/
def restartSent (l : Live) (i : Fin 7) : Bool :=
  l.part.restartTimer.isSome && i == replyPlace && (l.port.places.get i).onBus.any isRestartReply

/-- A transmission completes without error (R7, R10); the reply to RESTART starts the part (R171). -/
def transmissionDone (s : State) : State :=
  match s.live.port.sendingPlace with
  | none => s
  | some i =>
    if restartSent s.live i then startPart .restart s
    else s.onLive fun l =>
      { l with port := { l.port.onPlace i Place.sent with txErrors := l.port.txErrors - 1 } }

/-! ### Arrival of a frame (R1) -/

/-- The record of a data frame (R1). -/
def record (f : BusFrame) : RxFrame := { format := f.format, ident := f.ident, data := f.data.take (min f.dlc 8) }

/-- The records that the receive queue holds (R3). -/
def queueRoom : Nat := 16

/-- A record placed in the receive queue, or dropped where it is full (R3, R4). -/
def queueFrame (f : RxFrame) (l : Live) : Live :=
  if l.port.rxQueue.length < queueRoom then { l with port := { l.port with rxQueue := l.port.rxQueue ++ [f] } }
  else latch kRxOverflow f.ident { l with port := { l.port with rxDropped := countUp l.port.rxDropped 65535 } }

/-- The four wake patterns. -/
def allWakePatterns (img : Bank) : List WakePattern := allZones.map (wakePattern img)

/-- A frame in WATCH: kept where it matches a wake pattern, which ends WATCH, and else discarded (R5, R183). -/
def wakeFilter (img : Bank) (f : RxFrame) (l : Live) : Live :=
  if (allWakePatterns img).any fun w => w.matches f then wakeCheck img (enterWaking img (queueFrame f l)) else l

/-- A frame on the unit's request identifier (R1). -/
def isRequest (l : Live) (f : RxFrame) : Bool := f.format == .base && f.ident == requestIdent l.port.unit

/-! ### The requests carried out (R158, R170) -/

/-- A request is handed to the management unit (R2). -/
def carryOut (r : Request) (s : State) : State :=
  match r with
  | .identify => requestKeeping 0x01 (fun s => answer 0x01 rDone (identifyData s) s) s
  | .readSlot slot part => requestKeeping 0x10 (readSlotBody slot part) s
  | .forceSlot slot value => request 0x11 (forceSlotBody slot value) s
  | .releaseSlot slot => request 0x12 (releaseSlotBody slot) s
  | .readActuator role part => requestKeeping 0x18 (readActuatorBody role part) s
  | .clearFault role => request 0x19 (clearFaultBody role) s
  | .readNode address part => requestKeeping 0x1C (readNodeBody address part) s
  | .excludeNode address => request 0x1D (excludeNodeBody address) s
  | .admitNode address => request 0x1E (admitNodeBody address) s
  | .loadPoint page offset => request 0x20 (loadPointBody page offset) s
  | .loadData count data => request 0x21 (loadDataBody count data) s
  | .readPage bank page offset => requestKeeping 0x22 (readPageBody bank page offset) s
  | .copyActive => request 0x23 copyActiveBody s
  | .checkPending => requestKeeping 0x24 checkPendingBody s
  | .activate check => request 0x25 (activateBody check) s
  | .save => request 0x26 saveBody s
  | .protect groups => request 0x28 (protectBody groups) s
  | .unprotect groups => request 0x29 (unprotectBody groups) s
  | .markFirst rule => requestKeeping 0x30 (markFirstBody rule) s
  | .markLast rule => requestKeeping 0x31 (markLastBody rule) s
  | .keep rule => requestKeeping 0x32 (keepBody rule) s
  | .clearMarked => requestKeeping 0x33 clearMarkedBody s
  | .nodeRead address register count => request 0x38 (nodeReadBody address register count) s
  | .nodeWrite address register count => request 0x39 (nodeWriteBody address register count) s
  | .windowPut offset count data => request 0x3A (windowPutBody offset count data) s
  | .windowGet offset => request 0x3B (windowGetBody offset) s
  | .readEvents kind part => requestKeeping 0x40 (readEventsBody kind part) s
  | .clearEvents kinds => request 0x41 (clearEventsBody kinds) s
  | .setEventMask kinds => request 0x42 (setEventMaskBody kinds) s
  | .forceEvent kind => request 0x43 (forceEventBody kind) s
  | .readCounters group index part => requestKeeping 0x48 (readCountersBody group index part) s
  | .clearCounters => request 0x49 clearCountersBody s
  | .sleep => request 0x50 sleepBody s
  | .restart => request 0x51 restartBody s

/-- A frame that carries no request is answered BAD_REQUEST; it wakes the part like any request (R2, R158). -/
def badRequest (data : List Byte) (s : State) : State :=
  takeRequest (fun s => answer (byteAt data 0) rBadRequest [] s) s

/-- A request frame is handed on (R2). -/
def takeFrame (data : List Byte) (s : State) : State :=
  match decodeRequest data with
  | some r => carryOut r s
  | none => badRequest data s

/-- A received data frame is routed (R1). -/
def routeFrame (f : RxFrame) (s : State) : State :=
  if isRequest s.live f then takeFrame f.data s
  else if s.live.part.state = .watch then s.onLive (wakeFilter s.active f)
  else s.onLive (queueFrame f)

/-- A frame is received without error by a port that is on the bus (R1, R10, R11, R13). -/
def receiveFrame (f : BusFrame) (s : State) : State :=
  if s.live.port.onBus then
    let s := s.onLive fun l => { l with port := l.port.goodReception }
    if f.remote then s else routeFrame (record f) s
  else s

end Sys2Proof.Machine
end

