-- ==== Sys2Proof/Machine/LinkCommands.lean ====
section
/-! DEFINITION. The meanings of the commands of the cab link (chapter 8). -/

namespace Sys2Proof.Machine

/-- LINK_REQUEST_SENT (R139, R140). -/
def execLinkRequestSent (s : State) : Result := .next (s.running requestSent)

/-- MOVE_REPLY (R121, R122). -/
def execMoveReply (reply : LinkReply) (s : State) : Result :=
  .next (s.running fun l => settleCheck (takeReply s.active isMove reply l))

/-- HOME_REPLY (R121, R122, R128). -/
def execHomeReply (reply : LinkReply) (s : State) : Result :=
  .next (s.running fun l => settleCheck (takeReply s.active isHome reply l))

/-- SET_REPLY (R121, R122, R129). -/
def execSetReply (reply : LinkReply) (s : State) : Result :=
  .next (s.running fun l => settleCheck (takeReply s.active isSet reply l))

/-- HALT_REPLY (R124, R127). -/
def execHaltReply (reply : LinkReply) (s : State) : Result :=
  .next (s.running fun l => settleCheck (takeReply s.active isHalt reply l))

/-- QUERY_REPLY (R126, R128). -/
def execQueryReply (reply : LinkReply) (s : State) : Result :=
  .next (s.running fun l => settleCheck (takeReply s.active isPoll reply l))

/-- PROBE_REPLY (R145, R156). -/
def execProbeReply (reply : LinkReply) (s : State) : Result :=
  .next (s.running fun l => settleCheck (takeReply s.active isProbe reply l))

/-- REPLY_WINDOW_EXPIRY (R140). -/
def execReplyWindowExpiry (s : State) : Result :=
  .next (s.running fun l => onExpiry l.link.replyWindow (fun l => settleCheck (windowPasses s.active l)) l)

/-- ROLLCALL_ROUND_END: the 32 serial and the 8 kind bits of a round (R142). -/
def execRollcallRoundEnd (serial : BitVec 32) (kind : BitVec 8) (s : State) : Result :=
  .next (s.running fun l => roundRead s.active serial.toNat kind.toNat l)

/-- BIND_REPLY (R143). -/
def execBindReply (reply : LinkReply) (s : State) : Result :=
  .next (s.running fun l => settleCheck (takeReply s.active isBind reply l))

/-- The rollcall timer expires (R144). -/
def rollcallTimerExpires (img : Bank) (l : Live) : Live :=
  match l.link.rollcallTimer with
  | some t => rollcallDue img t (l.advanceTo t)
  | none => l

/-- ROLLCALL_TIMER_EXPIRY (R144). -/
def execRollcallTimerExpiry (s : State) : Result := .next (s.running (rollcallTimerExpires s.active))

/-- The probe timer expires (R145). -/
def probeTimerExpires (l : Live) : Live :=
  match l.link.probeTimer with
  | some t => probesDue t (l.advanceTo t)
  | none => l

/-- PROBE_TIMER_EXPIRY (R145). -/
def execProbeTimerExpiry (s : State) : Result := .next (s.running probeTimerExpires)

/-- READ_REPLY (R155). -/
def execReadReply (reply : LinkReply) (s : State) : Result :=
  .next (s.running fun l => settleCheck (takeReply s.active isRead reply l))

/-- WRITE_REPLY (R155). -/
def execWriteReply (reply : LinkReply) (s : State) : Result :=
  .next (s.running fun l => settleCheck (takeReply s.active isWrite reply l))

/-- LINE_STUCK (R152). -/
def execLineStuck (s : State) : Result := .next (s.running fun l => settleCheck (lineIsStuck s.active l))

/-- RECOVERY_ATTEMPT_END (R153, R154). -/
def execRecoveryAttemptEnd (released : Bool) (s : State) : Result :=
  .next (s.running fun l => settleCheck (attemptEnds s.active released l))

/-- RECOVERY_DELAY_EXPIRY (R153). -/
def execRecoveryDelayExpiry (s : State) : Result := .next (s.running fun l => onExpiry l.link.delayTimer delayPasses l)

/-- The 5 s timer of a FAILED link expires (R154). -/
def retryTimerExpires (l : Live) : Live :=
  match l.link.retryTimer with
  | some t => retryPasses t (l.advanceTo t)
  | none => l

/-- FAILED_RETRY_EXPIRY (R154). -/
def execFailedRetryExpiry (s : State) : Result := .next (s.running retryTimerExpires)

end Sys2Proof.Machine
end

