-- ==== Sys2Proof/Machine/PortCommands.lean ====
section
/-! DEFINITION. The meanings of the commands of the part's start and of the apparatus port (chapters 1 and 11). -/

namespace Sys2Proof.Machine

/-- POWER_ON: the part starts (R180); while the reset pin is held low it stays in reset. -/
def execPowerOn (s : State) : Result := .next (if s.held then s else startPart .powerOn s)

/-- RESET_PIN_ASSERT: the part is held in reset (R180). -/
def execResetPinAssert (s : State) : Result := .next (if s.held then s else holdReset s)

/-- RESET_PIN_RELEASE: the part starts (R180). -/
def execResetPinRelease (s : State) : Result := .next (if s.held then startPart .resetPin s else s)

/-- RESTART_DELAY_EXPIRY: 20 ms after its reply was placed RESTART starts the part (R171). -/
def execRestartDelayExpiry (s : State) : Result :=
  .next (if s.held ∨ s.live.part.restartTimer.isNone then s else startPart .restart s)

/-- PORT_JOIN: the port has seen 11 recessive bits and joins the bus (R13). -/
def execPortJoin (s : State) : Result := .next (s.running fun l => { l with port := { l.port with joined := true } })

/-- FRAME_ARRIVAL: a frame received without error is routed (R1). -/
def execFrameArrival (frame : BusFrame) (s : State) : Result := .next (if s.held then s else receiveFrame frame s)

/-- A frame being received ends with an error (R10); an OFFLINE port receives nothing (R11). -/
def receptionFails (p : Port) : Port := if p.onBus then p.badReception else p

/-- RECEIVE_ERROR (R10). -/
def execReceiveError (s : State) : Result := .next (s.running fun l => { l with port := receptionFails l.port })

/-- The port starts its READY frame with the lowest identifier, where it may transmit (R8). -/
def startTransmission (p : Port) : Port :=
  if p.onBus ∧ p.sendingPlace = none then
    match p.readyPlace with
    | some i => p.onPlace i Place.begin
    | none => p
  else p

/-- TRANSMIT_START (R8). -/
def execTransmitStart (s : State) : Result := .next (s.running fun l => { l with port := startTransmission l.port })

/-- TRANSMIT_SUCCESS: the frame is gone (R7, R10); the reply to RESTART starts the part (R171). -/
def execTransmitSuccess (s : State) : Result := .next (if s.held then s else transmissionDone s)

/-- The port loses arbitration (R7, R8): no error. -/
def arbitrationFails (p : Port) : Port :=
  match p.sendingPlace with
  | some i => p.onPlace i Place.unsent
  | none => p

/-- ARBITRATION_LOST (R8). -/
def execArbitrationLost (s : State) : Result := .next (s.running fun l => { l with port := arbitrationFails l.port })

/-- The transmit error count after a transmission that ends with an error (R10). -/
def errorsAfter (p : Port) (noAck : Bool) : Nat :=
  if noAck ∧ p.state = .errorPassive then p.txErrors else raisedTxErrors p.txErrors

/-- A transmission of the port's ends with an error (R7, R10); at 256 the port goes OFFLINE (R11). -/
def transmissionFails (noAck : Bool) (l : Live) : Live :=
  match l.port.sendingPlace with
  | none => l
  | some i =>
    let n := errorsAfter l.port noAck
    let l := { l with port := { l.port.onPlace i Place.unsent with txErrors := n } }
    if n = 256 then latch kPortOffline 256 l else l

/-- TRANSMIT_ERROR (R10, R11). -/
def execTransmitError (noAck : Bool) (s : State) : Result := .next (s.running (transmissionFails noAck))

/-- The port has counted its 128 runs and rejoins (R12). -/
def portRejoins (p : Port) : Port := if p.state = .offline then { p with txErrors := 0, rxErrors := 0 } else p

/-- PORT_REJOIN (R12). -/
def execPortRejoin (s : State) : Result := .next (s.running fun l => { l with port := portRejoins l.port })

/-- SCAN_FRAME: the idle classifier scans the head of the receive queue (R15). -/
def execScanFrame (s : State) : Result := .next (s.running fun l => settleCheck (scanHead s.active l))

end Sys2Proof.Machine
end

