-- ==== Sys2Proof/Machine/RequestCommands.lean ====
section
/-! DEFINITION. The meanings of the management requests (chapter 9), of the store's own steps and of the store word. -/

namespace Sys2Proof.Machine

/-- UNKNOWN_REQUEST: answered BAD_REQUEST, with the code echoed, 0 for a frame of length 0 (R158, R185). -/
def execUnknownRequest (data : List Byte) (s : State) : Result := .next (badRequest data s)

/-- IDENTIFY (R171). -/
def execIdentify (s : State) : Result := .next (carryOut .identify s)

/-- READ_SLOT (R50). -/
def execReadSlot (slot part : Nat) (s : State) : Result := .next (carryOut (.readSlot slot part) s)

/-- FORCE_SLOT (R45). -/
def execForceSlot (slot : Nat) (value : Int) (s : State) : Result := .next (carryOut (.forceSlot slot value) s)

/-- RELEASE_SLOT (R47). -/
def execReleaseSlot (slot : Nat) (s : State) : Result := .next (carryOut (.releaseSlot slot) s)

/-- READ_ACTUATOR (R133). -/
def execReadActuator (role part : Nat) (s : State) : Result := .next (carryOut (.readActuator role part) s)

/-- CLEAR_FAULT (R133). -/
def execClearFault (role : Nat) (s : State) : Result := .next (carryOut (.clearFault role) s)

/-- READ_NODE (R146). -/
def execReadNode (address part : Nat) (s : State) : Result := .next (carryOut (.readNode address part) s)

/-- EXCLUDE_NODE (R148). -/
def execExcludeNode (address : Nat) (s : State) : Result := .next (carryOut (.excludeNode address) s)

/-- ADMIT_NODE (R148). -/
def execAdmitNode (address : Nat) (s : State) : Result := .next (carryOut (.admitNode address) s)

/-- LOAD_POINT (R162). -/
def execLoadPoint (page offset : Nat) (s : State) : Result := .next (carryOut (.loadPoint page offset) s)

/-- LOAD_DATA (R162). -/
def execLoadData (count : Nat) (data : List Byte) (s : State) : Result := .next (carryOut (.loadData count data) s)

/-- READ_PAGE (R163). -/
def execReadPage (bank page offset : Nat) (s : State) : Result := .next (carryOut (.readPage bank page offset) s)

/-- COPY_ACTIVE (R163). -/
def execCopyActive (s : State) : Result := .next (carryOut .copyActive s)

/-- CHECK_PENDING (R163). -/
def execCheckPending (s : State) : Result := .next (carryOut .checkPending s)

/-- ACTIVATE (R164, R165). -/
def execActivate (check : Nat) (s : State) : Result := .next (carryOut (.activate check) s)

/-- SAVE (R168). -/
def execSave (s : State) : Result := .next (carryOut .save s)

/-- The item being programmed is done (R168). -/
def itemProgrammed (flaws : List Host.Cell) (s : State) : State :=
  match s.live.management.saving with
  | some item => programItem flaws item s
  | none => s

/-- SAVE_PAGE_PROGRAMMED: a page or the check is programmed, with the bytes of it that did not take (R168). -/
def execSavePageProgrammed (flaws : List Host.Cell) (s : State) : Result :=
  .next (if s.held then s else itemProgrammed flaws s)

/-- SAVE_COMPLETE: the read-back ends (R168). -/
def execSaveComplete (s : State) : Result := .next (if s.held then s else readBackEnds s)

/-- PROTECT (R167). -/
def execProtect (groups : Nat) (s : State) : Result := .next (carryOut (.protect groups) s)

/-- UNPROTECT (R167). -/
def execUnprotect (groups : Nat) (s : State) : Result := .next (carryOut (.unprotect groups) s)

/-- PROTECT_WRITE_DONE: the store word is written (R167). -/
def execProtectWriteDone (s : State) : Result := .next (if s.held then s else protectWritten s)

/-- MARK_FIRST (R166). -/
def execMarkFirst (rule : Nat) (s : State) : Result := .next (carryOut (.markFirst rule) s)

/-- MARK_LAST (R166). -/
def execMarkLast (rule : Nat) (s : State) : Result := .next (carryOut (.markLast rule) s)

/-- KEEP (R166). -/
def execKeep (rule : Nat) (s : State) : Result := .next (carryOut (.keep rule) s)

/-- CLEAR_MARKED (R166). -/
def execClearMarked (s : State) : Result := .next (carryOut .clearMarked s)

/-- NODE_READ (R155). -/
def execNodeRead (address register count : Nat) (s : State) : Result :=
  .next (carryOut (.nodeRead address register count) s)

/-- NODE_WRITE (R155). -/
def execNodeWrite (address register count : Nat) (s : State) : Result :=
  .next (carryOut (.nodeWrite address register count) s)

/-- WINDOW_PUT (R170). -/
def execWindowPut (offset count : Nat) (data : List Byte) (s : State) : Result :=
  .next (carryOut (.windowPut offset count data) s)

/-- WINDOW_GET (R170). -/
def execWindowGet (offset : Nat) (s : State) : Result := .next (carryOut (.windowGet offset) s)

/-- READ_EVENTS (R174). -/
def execReadEvents (kind part : Nat) (s : State) : Result := .next (carryOut (.readEvents kind part) s)

/-- CLEAR_EVENTS (R174). -/
def execClearEvents (kinds : BitVec 32) (s : State) : Result := .next (carryOut (.clearEvents kinds) s)

/-- SET_EVENT_MASK (R175). -/
def execSetEventMask (kinds : BitVec 32) (s : State) : Result := .next (carryOut (.setEventMask kinds) s)

/-- FORCE_EVENT (R174). -/
def execForceEvent (kind : Nat) (s : State) : Result := .next (carryOut (.forceEvent kind) s)

/-- READ_COUNTERS (R178). -/
def execReadCounters (group index part : Nat) (s : State) : Result := .next (carryOut (.readCounters group index part) s)

/-- CLEAR_COUNTERS (R178). -/
def execClearCounters (s : State) : Result := .next (carryOut .clearCounters s)

/-- SLEEP (R171). -/
def execSleep (s : State) : Result := .next (carryOut .sleep s)

/-- RESTART (R171). -/
def execRestart (s : State) : Result := .next (carryOut .restart s)

end Sys2Proof.Machine
end

