-- ==== Sys2Proof/Machine/TimerCommands.lean ====
section
/-! DEFINITION. The meanings of the timer expiries of the slots, the air source controller, the planner, the sequencer, the
event unit and the part state. -/

namespace Sys2Proof.Machine

/-! ### Slots (R42, R43) -/

/-- SLOT_STALE_EXPIRY (R42). -/
def execSlotStaleExpiry (slot : Fin 32) (s : State) : Result :=
  .next (s.running fun l => onExpiry (staleDue s.active slot (slotOf l slot)) (staleExpires s.active slot) l)

/-- SLOT_LAPSE_EXPIRY (R43). -/
def execSlotLapseExpiry (slot : Fin 32) (s : State) : Result :=
  .next (s.running fun l => onExpiry (lapseDue s.active slot (slotOf l slot)) (lapseExpires s.active slot) l)

/-! ### Air source controller (R57, R62, R64) -/

/-- RISE_TIMER_EXPIRY (R58). -/
def execRiseTimerExpiry (s : State) : Result := .next (s.running fun l => onExpiry l.air.rise (riseExpires s.active) l)

/-- UNKNOWN_TIMER_EXPIRY (R58). -/
def execUnknownTimerExpiry (s : State) : Result :=
  .next (s.running fun l => onExpiry l.air.unknown (unknownExpires s.active) l)

/-- FALL_TIMER_EXPIRY (R59, R60). -/
def execFallTimerExpiry (s : State) : Result := .next (s.running fun l => onExpiry l.air.fall (fallExpires s.active) l)

/-- PURGE_TIMER_EXPIRY (R62). -/
def execPurgeTimerExpiry (s : State) : Result :=
  .next (s.running fun l => onExpiry l.air.purge (purgeExpires s.active) l)

/-- PURGE_LIMIT_EXPIRY (R62). -/
def execPurgeLimitExpiry (s : State) : Result :=
  .next (s.running fun l => onExpiry l.air.purgeLimit (purgeLimitExpires s.active) l)

/-- BOOST_TAIL_EXPIRY (R64). -/
def execBoostTailExpiry (s : State) : Result := .next (s.running fun l => onExpiry l.air.boostTail boostTailExpires l)

/-! ### Planner (R73, R74) -/

/-- PLAN_PASS (R74). -/
def execPlanPass (s : State) : Result := .next (s.running fun l => onExpiry l.planner.timer (planPass s.active) l)

/-! ### Sequencer (R120, R125 to R127) -/

/-- A waiting entry's hold-off expires and the queue is offered (R120). -/
def holdOffExpires (img : Bank) (r : Role) (l : Live) : Live :=
  offer img (updateEntry r (fun e => { e with holdOff := none }) l)

/-- HOLD_OFF_EXPIRY (R120). -/
def execHoldOffExpiry (role : Role) (s : State) : Result :=
  .next (s.running fun l =>
    onExpiry ((queueEntry l role).bind (·.holdOff)) (fun l => settleCheck (holdOffExpires s.active role l)) l)

/-- RESUME_GUARD_EXPIRY (R125). -/
def execResumeGuardExpiry (role : Role) (s : State) : Result :=
  .next (s.running fun l =>
    onExpiry (actuator l role).guardTime (onActuator role fun a => { a with guardTime := none }) l)

/-- A poll timer expires: a QUERY is requested, and the timer waits for its end (R126). -/
def pollExpires (img : Bank) (r : Role) (l : Live) : Live :=
  match itemOf l r with
  | none => l
  | some it =>
    placeRequest (.item r it.id) ((nodeAddress img l r).getD 0) (.query (binding img r).channel) .poll
      (updateItem r (fun i => { i with poll := none }) l)

/-- POLL_TIMER_EXPIRY (R126). -/
def execPollTimerExpiry (role : Role) (s : State) : Result :=
  .next (s.running fun l => onExpiry ((itemOf l role).bind (·.poll)) (pollExpires s.active role) l)

/-- A deadline expires: the poll stops, a waiting poll is withdrawn and a HALT is requested (R127). -/
def deadlineExpires (img : Bank) (r : Role) (l : Live) : Live :=
  match itemOf l r with
  | some it => haltItem img .deadline it l
  | none => l

/-- MOVE_DEADLINE_EXPIRY (R127). -/
def execMoveDeadlineExpiry (role : Role) (s : State) : Result :=
  .next (s.running fun l => onExpiry ((itemOf l role).bind (·.deadline)) (deadlineExpires s.active role) l)

/-! ### Event unit (R175, R177) -/

/-- The spacing hold expires: an owed STATUS_E is placed (R175), but none in WATCH (R177). -/
def spacingExpires (l : Live) : Live :=
  let l := { l with events := { l.events with spacingHold := none } }
  if l.events.owed ∧ l.part.state ≠ .watch then placeStatusE l else l

/-- SPACING_HOLD_EXPIRY (R175). -/
def execSpacingHoldExpiry (s : State) : Result :=
  .next (s.running fun l => onExpiry l.events.spacingHold spacingExpires l)

/-- The status timer expires: the periodic frames, and the timer again (R177). -/
def statusExpires (img : Bank) (l : Live) : Live :=
  let l := placePeriodic l
  { l with events := { l.events with statusTimer := some (l.now + statusPeriod img) } }

/-- STATUS_TIMER_EXPIRY (R177). -/
def execStatusTimerExpiry (s : State) : Result :=
  .next (s.running fun l => onExpiry l.events.statusTimer (statusExpires s.active) l)

/-! ### Part state (R181) -/

/-- The ignition timer expires: SETTLING, or the settle request (R181). -/
def ignitionExpires (img : Bank) (l : Live) : Live :=
  askSettle img { l with part := { l.part with ignitionTimer := none } }

/-- IGNITION_TIMER_EXPIRY (R181). -/
def execIgnitionTimerExpiry (s : State) : Result :=
  .next (s.running fun l => onExpiry l.part.ignitionTimer (fun l => settleCheck (ignitionExpires s.active l)) l)

end Sys2Proof.Machine
end

