-- ==== Sys2Proof/Machine/Dispatch.lean ====
section
/-! DEFINITION. The meaning of every command: one arm per constructor of Instr. -/

namespace Sys2Proof.Machine

def exec (i : Instr) (s : State) : Host.Outcome State Fault Refusal :=
  match i with
  | .powerOn => Sys2Proof.Machine.execPowerOn s
  | .resetPinAssert => Sys2Proof.Machine.execResetPinAssert s
  | .resetPinRelease => Sys2Proof.Machine.execResetPinRelease s
  | .restartDelayExpiry => Sys2Proof.Machine.execRestartDelayExpiry s
  | .portJoin => Sys2Proof.Machine.execPortJoin s
  | .frameArrival frame => Sys2Proof.Machine.execFrameArrival frame s
  | .receiveError => Sys2Proof.Machine.execReceiveError s
  | .transmitStart => Sys2Proof.Machine.execTransmitStart s
  | .transmitSuccess => Sys2Proof.Machine.execTransmitSuccess s
  | .arbitrationLost => Sys2Proof.Machine.execArbitrationLost s
  | .transmitError noAck => Sys2Proof.Machine.execTransmitError noAck s
  | .portRejoin => Sys2Proof.Machine.execPortRejoin s
  | .scanFrame => Sys2Proof.Machine.execScanFrame s
  | .slotStaleExpiry slot => Sys2Proof.Machine.execSlotStaleExpiry slot s
  | .slotLapseExpiry slot => Sys2Proof.Machine.execSlotLapseExpiry slot s
  | .riseTimerExpiry => Sys2Proof.Machine.execRiseTimerExpiry s
  | .unknownTimerExpiry => Sys2Proof.Machine.execUnknownTimerExpiry s
  | .fallTimerExpiry => Sys2Proof.Machine.execFallTimerExpiry s
  | .purgeTimerExpiry => Sys2Proof.Machine.execPurgeTimerExpiry s
  | .purgeLimitExpiry => Sys2Proof.Machine.execPurgeLimitExpiry s
  | .boostTailExpiry => Sys2Proof.Machine.execBoostTailExpiry s
  | .planPass => Sys2Proof.Machine.execPlanPass s
  | .holdOffExpiry role => Sys2Proof.Machine.execHoldOffExpiry role s
  | .resumeGuardExpiry role => Sys2Proof.Machine.execResumeGuardExpiry role s
  | .pollTimerExpiry role => Sys2Proof.Machine.execPollTimerExpiry role s
  | .moveDeadlineExpiry role => Sys2Proof.Machine.execMoveDeadlineExpiry role s
  | .linkRequestSent => Sys2Proof.Machine.execLinkRequestSent s
  | .moveReply reply => Sys2Proof.Machine.execMoveReply reply s
  | .homeReply reply => Sys2Proof.Machine.execHomeReply reply s
  | .setReply reply => Sys2Proof.Machine.execSetReply reply s
  | .haltReply reply => Sys2Proof.Machine.execHaltReply reply s
  | .queryReply reply => Sys2Proof.Machine.execQueryReply reply s
  | .probeReply reply => Sys2Proof.Machine.execProbeReply reply s
  | .replyWindowExpiry => Sys2Proof.Machine.execReplyWindowExpiry s
  | .rollcallRoundEnd serial kind => Sys2Proof.Machine.execRollcallRoundEnd serial kind s
  | .bindReply reply => Sys2Proof.Machine.execBindReply reply s
  | .rollcallTimerExpiry => Sys2Proof.Machine.execRollcallTimerExpiry s
  | .probeTimerExpiry => Sys2Proof.Machine.execProbeTimerExpiry s
  | .readReply reply => Sys2Proof.Machine.execReadReply reply s
  | .writeReply reply => Sys2Proof.Machine.execWriteReply reply s
  | .lineStuck => Sys2Proof.Machine.execLineStuck s
  | .recoveryAttemptEnd released => Sys2Proof.Machine.execRecoveryAttemptEnd released s
  | .recoveryDelayExpiry => Sys2Proof.Machine.execRecoveryDelayExpiry s
  | .failedRetryExpiry => Sys2Proof.Machine.execFailedRetryExpiry s
  | .unknownRequest data => Sys2Proof.Machine.execUnknownRequest data s
  | .identify => Sys2Proof.Machine.execIdentify s
  | .readSlot slot part => Sys2Proof.Machine.execReadSlot slot part s
  | .forceSlot slot value => Sys2Proof.Machine.execForceSlot slot value s
  | .releaseSlot slot => Sys2Proof.Machine.execReleaseSlot slot s
  | .readActuator role part => Sys2Proof.Machine.execReadActuator role part s
  | .clearFault role => Sys2Proof.Machine.execClearFault role s
  | .readNode address part => Sys2Proof.Machine.execReadNode address part s
  | .excludeNode address => Sys2Proof.Machine.execExcludeNode address s
  | .admitNode address => Sys2Proof.Machine.execAdmitNode address s
  | .loadPoint page offset => Sys2Proof.Machine.execLoadPoint page offset s
  | .loadData count data => Sys2Proof.Machine.execLoadData count data s
  | .readPage bank page offset => Sys2Proof.Machine.execReadPage bank page offset s
  | .copyActive => Sys2Proof.Machine.execCopyActive s
  | .checkPending => Sys2Proof.Machine.execCheckPending s
  | .activate check => Sys2Proof.Machine.execActivate check s
  | .save => Sys2Proof.Machine.execSave s
  | .savePageProgrammed flaws => Sys2Proof.Machine.execSavePageProgrammed flaws s
  | .saveComplete => Sys2Proof.Machine.execSaveComplete s
  | .protect groups => Sys2Proof.Machine.execProtect groups s
  | .unprotect groups => Sys2Proof.Machine.execUnprotect groups s
  | .protectWriteDone => Sys2Proof.Machine.execProtectWriteDone s
  | .markFirst rule => Sys2Proof.Machine.execMarkFirst rule s
  | .markLast rule => Sys2Proof.Machine.execMarkLast rule s
  | .keep rule => Sys2Proof.Machine.execKeep rule s
  | .clearMarked => Sys2Proof.Machine.execClearMarked s
  | .nodeRead address register count => Sys2Proof.Machine.execNodeRead address register count s
  | .nodeWrite address register count => Sys2Proof.Machine.execNodeWrite address register count s
  | .windowPut offset count data => Sys2Proof.Machine.execWindowPut offset count data s
  | .windowGet offset => Sys2Proof.Machine.execWindowGet offset s
  | .readEvents kind part => Sys2Proof.Machine.execReadEvents kind part s
  | .clearEvents kinds => Sys2Proof.Machine.execClearEvents kinds s
  | .setEventMask kinds => Sys2Proof.Machine.execSetEventMask kinds s
  | .forceEvent kind => Sys2Proof.Machine.execForceEvent kind s
  | .readCounters group index part => Sys2Proof.Machine.execReadCounters group index part s
  | .clearCounters => Sys2Proof.Machine.execClearCounters s
  | .sleep => Sys2Proof.Machine.execSleep s
  | .restart => Sys2Proof.Machine.execRestart s
  | .spacingHoldExpiry => Sys2Proof.Machine.execSpacingHoldExpiry s
  | .statusTimerExpiry => Sys2Proof.Machine.execStatusTimerExpiry s
  | .ignitionTimerExpiry => Sys2Proof.Machine.execIgnitionTimerExpiry s

end Sys2Proof.Machine
end

