-- ==== Sys2Proof/WellFormed.lean ====
section
/-! DEFINITION. Which commands are well formed: operands within what the frame, the reply or the pin event can carry. -/

namespace Sys2Proof

/-- A number that one byte carries. -/
def isByte (n : Nat) : Bool := decide (n < 256)

/-- A number that two bytes carry. -/
def isWord (n : Nat) : Bool := decide (n < 65536)

/-- A signed number that two bytes carry. -/
def isSignedWord (n : Int) : Bool := decide (-32768 ≤ n) && decide (n < 32768)

/-- The data of LOAD_DATA and WINDOW_PUT: as many bytes as a count in range names, none for a count out of range (R185). -/
def countedOk (max count : Nat) (data : List Byte) : Bool :=
  if count = 0 ∨ max < count then data == [] else data.length == count

/-- A request whose arguments a frame can carry (R185). -/
def Request.wf : Request → Bool
  | .readSlot slot part => isByte slot && isByte part
  | .forceSlot slot value => isByte slot && isSignedWord value
  | .releaseSlot slot => isByte slot
  | .readActuator role part => isByte role && isByte part
  | .clearFault role => isByte role
  | .readNode address part => isByte address && isByte part
  | .excludeNode address => isByte address
  | .admitNode address => isByte address
  | .loadPoint page offset => isByte page && isByte offset
  | .loadData count data => isByte count && countedOk 6 count data
  | .readPage bank page offset => isByte bank && isByte page && isByte offset
  | .activate check => isWord check
  | .protect groups => isByte groups
  | .unprotect groups => isByte groups
  | .markFirst rule => isByte rule
  | .markLast rule => isByte rule
  | .keep rule => isByte rule
  | .nodeRead address register count => isByte address && isWord register && isByte count
  | .nodeWrite address register count => isByte address && isWord register && isByte count
  | .windowPut offset count data => isByte offset && isByte count && countedOk 5 count data
  | .windowGet offset => isByte offset
  | .readEvents kind part => isByte kind && isByte part
  | .forceEvent kind => isByte kind
  | .readCounters group index part => isByte group && isByte index && isByte part
  | .identify | .copyActive | .checkPending | .save | .clearMarked | .clearEvents _ | .setEventMask _
  | .clearCounters | .sleep | .restart => true

/-- A frame of the apparatus bus: an identifier of its format, a data length code of 4 bits, and as many data bytes as the
code stands for; none in a remote frame (R1). -/
def BusFrame.wf (f : BusFrame) : Bool :=
  decide (f.ident < (match f.format with
    | .base => 2048
    | .extended => 536870912)) &&
  decide (f.dlc < 16) &&
  decide (f.data.length = if f.remote then 0 else min f.dlc 8)

/-- A reply of a node as its length field says: that many payload bytes (R140). -/
def LinkReply.wf (r : LinkReply) : Bool := r.payload.length == r.length.toNat

/-- The flaws of one programmed item: cells of the image, in rising order; for the check word the addresses 0 and 1. -/
def flawsWf : List Host.Cell → Bool
  | [] => true
  | [(a, _)] => decide (a < 2560)
  | (a, _) :: (b, v) :: rest => decide (a < b) && flawsWf ((b, v) :: rest)

/-- A command whose operands the event can carry. -/
def Instr.wf : Instr → Bool
  | .frameArrival frame => frame.wf
  | .moveReply reply | .homeReply reply | .setReply reply | .haltReply reply | .queryReply reply
  | .probeReply reply | .bindReply reply | .readReply reply | .writeReply reply => reply.wf
  | .unknownRequest data => decide (data.length ≤ 8) && (decodeRequest data).isNone
  | .readSlot slot part => (Request.readSlot slot part).wf
  | .forceSlot slot value => (Request.forceSlot slot value).wf
  | .releaseSlot slot => (Request.releaseSlot slot).wf
  | .readActuator role part => (Request.readActuator role part).wf
  | .clearFault role => (Request.clearFault role).wf
  | .readNode address part => (Request.readNode address part).wf
  | .excludeNode address => (Request.excludeNode address).wf
  | .admitNode address => (Request.admitNode address).wf
  | .loadPoint page offset => (Request.loadPoint page offset).wf
  | .loadData count data => (Request.loadData count data).wf
  | .readPage bank page offset => (Request.readPage bank page offset).wf
  | .activate check => (Request.activate check).wf
  | .protect groups => (Request.protect groups).wf
  | .unprotect groups => (Request.unprotect groups).wf
  | .markFirst rule => (Request.markFirst rule).wf
  | .markLast rule => (Request.markLast rule).wf
  | .keep rule => (Request.keep rule).wf
  | .nodeRead address register count => (Request.nodeRead address register count).wf
  | .nodeWrite address register count => (Request.nodeWrite address register count).wf
  | .windowPut offset count data => (Request.windowPut offset count data).wf
  | .windowGet offset => (Request.windowGet offset).wf
  | .readEvents kind part => (Request.readEvents kind part).wf
  | .forceEvent kind => (Request.forceEvent kind).wf
  | .readCounters group index part => (Request.readCounters group index part).wf
  | .savePageProgrammed flaws => flawsWf flaws
  | .powerOn | .resetPinAssert | .resetPinRelease | .restartDelayExpiry | .portJoin | .receiveError | .transmitStart
  | .transmitSuccess | .arbitrationLost | .transmitError _ | .portRejoin | .scanFrame | .slotStaleExpiry _
  | .slotLapseExpiry _ | .riseTimerExpiry | .unknownTimerExpiry | .fallTimerExpiry | .purgeTimerExpiry
  | .purgeLimitExpiry | .boostTailExpiry | .planPass | .holdOffExpiry _ | .resumeGuardExpiry _ | .pollTimerExpiry _
  | .moveDeadlineExpiry _ | .linkRequestSent | .replyWindowExpiry | .rollcallRoundEnd _ _ | .rollcallTimerExpiry
  | .probeTimerExpiry | .lineStuck | .recoveryAttemptEnd _ | .recoveryDelayExpiry | .failedRetryExpiry | .identify
  | .copyActive | .checkPending | .save | .saveComplete | .protectWriteDone | .clearMarked | .clearEvents _
  | .setEventMask _ | .clearCounters | .sleep | .restart | .spacingHoldExpiry | .statusTimerExpiry
  | .ignitionTimerExpiry => true

end Sys2Proof
end

