-- ==== Sys2Proof/Safety.lean ====
section
/-! DEFINITION. What a safe state of the part is: the forms of State that every command keeps. -/

namespace Sys2Proof.Machine

/-- The banks and the store's image are in canonical form. -/
def State.banksWf (s : State) : Bool := bankWf s.active && bankWf s.loading && bankWf s.store.image

/-- The Move Queue's order: every URGENT entry ahead of every NORMAL one (R117). -/
def queueOrdered : List QueueEntry → Bool
  | [] => true
  | e :: rest => (e.urgent || rest.all fun x => !x.urgent) && queueOrdered rest

/-- No role stands twice in a list. -/
def rolesDistinct : List Role → Bool
  | [] => true
  | r :: rest => !rest.contains r && rolesDistinct rest

/-! ### Conditions on a state that the statements use -/

/-- A start loads the store: no save is cut off and the store is good (R168, R180). -/
def State.startGood (s : State) : Bool := s.live.management.saving.isNone && storeGood s.store

/-- The part takes a request at once and carries it out: it is not held in reset, the port is on the bus, the part is not in
WATCH, no completion request is in progress, and it is not in WAKING with the link FAILED (R11, R13, R158, R183). -/
def State.takes (s : State) : Bool :=
  !s.held && s.live.port.onBus && s.live.part.state != .watch && s.live.management.inProgress.isNone &&
    !(s.live.part.state == .waking && s.live.link.state == .failed)

/-- The command of a request. -/
def commandOf : Request → Instr
  | .identify => .identify
  | .readSlot slot part => .readSlot slot part
  | .forceSlot slot value => .forceSlot slot value
  | .releaseSlot slot => .releaseSlot slot
  | .readActuator role part => .readActuator role part
  | .clearFault role => .clearFault role
  | .readNode address part => .readNode address part
  | .excludeNode address => .excludeNode address
  | .admitNode address => .admitNode address
  | .loadPoint page offset => .loadPoint page offset
  | .loadData count data => .loadData count data
  | .readPage bank page offset => .readPage bank page offset
  | .copyActive => .copyActive
  | .checkPending => .checkPending
  | .activate check => .activate check
  | .save => .save
  | .protect groups => .protect groups
  | .unprotect groups => .unprotect groups
  | .markFirst rule => .markFirst rule
  | .markLast rule => .markLast rule
  | .keep rule => .keep rule
  | .clearMarked => .clearMarked
  | .nodeRead address register count => .nodeRead address register count
  | .nodeWrite address register count => .nodeWrite address register count
  | .windowPut offset count data => .windowPut offset count data
  | .windowGet offset => .windowGet offset
  | .readEvents kind part => .readEvents kind part
  | .clearEvents kinds => .clearEvents kinds
  | .setEventMask kinds => .setEventMask kinds
  | .forceEvent kind => .forceEvent kind
  | .readCounters group index part => .readCounters group index part
  | .clearCounters => .clearCounters
  | .sleep => .sleep
  | .restart => .restart

/-- The code that a request's reply echoes (R158, R185). -/
def requestCode (r : Request) : Byte := byteAt (encodeRequest r) 0

/-- The start that a command causes in a state, and its cause (R180, R171). -/
def startCause (c : Instr) (s : State) : Option StartCause :=
  match c with
  | .powerOn => if s.held then none else some .powerOn
  | .resetPinRelease => if s.held then some .resetPin else none
  | .restartDelayExpiry => if s.held ∨ s.live.part.restartTimer.isNone then none else some .restart
  | .transmitSuccess =>
    if s.held then none
    else
      match s.live.port.sendingPlace with
      | some i => if restartSent s.live i then some .restart else none
      | none => none
  | _ => none

/-- The commands that may replace the ACTIVE image: the starts, ACTIVATE, and a frame that carries ACTIVATE. -/
def mayReplaceActive : Instr → Bool
  | .powerOn | .resetPinRelease | .restartDelayExpiry | .transmitSuccess | .activate _ | .frameArrival _ => true
  | _ => false

/-! ### The forms that every command keeps -/

/-- The load pointer and the rule-range sequence hold only what section 9 gives them. -/
def Management.wf (m : Management) : Bool :=
  (m.pointer.all fun p => decide (p.1 ≤ 19) && decide (p.2 ≤ 127)) &&
    (match m.ruleRange with
      | .idle => true
      | .first f => decide (f ≤ 95)
      | .range f l kept =>
        decide (f ≤ l) && decide (l ≤ 95) && (kept.all fun n => decide (f ≤ n) && decide (n ≤ l)) &&
          decide (kept.length ≤ keepPlaces) && decide kept.Nodup)

/-- The banks, the store and the requests that write to them are in form (R160 to R162, R166). -/
def State.imagesWf (s : State) : Bool := s.banksWf && s.live.management.wf

/-- The port's queue and counts are in range (R3, R4, R10). -/
def Port.inRange (p : Port) : Bool :=
  decide (p.rxQueue.length ≤ queueRoom) && decide (p.rxDropped ≤ 65535) && decide (p.txErrors ≤ 256) &&
    decide (p.rxErrors ≤ 255)

/-- The classifier's counters are in range (R21, R29). -/
def Classifier.inRange (c : Classifier) : Bool :=
  decide (c.unclaimed ≤ 65535) &&
    c.counts.toList.all fun r => decide (r.hit ≤ 65535) && decide (r.short ≤ 65535) && decide (r.na ≤ 65535)

/-- A slot's counters are in range, and its age runs exactly where it is not NEVER (R35, R38, R39). -/
def Slot.inForm (s : Slot) : Bool :=
  decide (s.clampCount ≤ 255) && decide (s.outranked ≤ 255) && (s.since.isNone == decide (s.belief = .never))

/-- The port, the classifier and the slots are in form. -/
def State.countersWf (s : State) : Bool :=
  s.live.port.inRange && s.live.classifier.inRange && s.live.slots.toList.all Slot.inForm

/-- The actuators whose work stands in a collection: the Move Queue, the In-Flight set, the suspended place. -/
def Sequencer.workers (q : Sequencer) : List Role :=
  q.queue.map (·.role) ++ q.inFlight.map (·.role) ++ (q.suspended.map (·.role)).toList

/-- The Move Queue is in order, and an actuator is in at most one of the three collections, once (R117). -/
def State.queueWf (s : State) : Bool :=
  queueOrdered s.live.sequencer.queue && rolesDistinct s.live.sequencer.workers

/-- A directory entry is in form: a serial other than 0 and all ones, an address from 1 to 16, a kind of one byte, and its
counts in range (R143, R146, R147). -/
def Node.inForm (n : Node) : Bool :=
  decide (n.serial ≠ 0) && decide (n.serial ≠ 0xFFFFFFFF) && decide (1 ≤ n.address) && decide (n.address ≤ 16) &&
    decide (n.kind ≤ 255) && decide (n.consecutive ≤ 3) && decide (n.total ≤ 255)

/-- The winner of a series has a kind of one byte. -/
def Series.inForm (s : Series) : Bool := s.winner.all fun w => decide (w.2 ≤ 255)

/-- The directory is in form: every entry is, no two hold one address, and no two one serial (R146). -/
def State.directoryWf (s : State) : Bool :=
  let k := s.live.link
  k.directory.all Node.inForm && decide (k.directory.map (·.address)).Nodup && decide (k.directory.map (·.serial)).Nodup &&
    k.series.all Series.inForm && k.leftOver.all Series.inForm

/-- The damper targets are those of the source mode (R54). -/
def Air.followsMode (img : Bank) (a : Air) : Bool :=
  decide ((a.intake, a.filter, a.recirc) = modeTargets img a.mode a.fraction)

/-- The damper targets follow the source mode under the ACTIVE image. -/
def State.airWf (s : State) : Bool := s.live.air.followsMode s.active

end Sys2Proof.Machine
end

