-- ==== Sys2Proof/Certificates/Slice0/Obligations.lean ====
section
/-! DEFINITION. The statements about the GC412 for the provers. Each docstring names the rule or section of spec/ that the
statement formalises. Numbers of log entries are those of notes/assumptions/. -/

open Sys2Proof Sys2Proof.Machine

/-! ### The machine -/

/-- A step takes the command at the front of the queue and runs it on the state with the queue's rest. On an empty queue it
lets one millisecond pass and changes nothing else: that is the model's choice, log entry 1. -/
def Obligations.StepRunsTheFrontCommand : Prop :=
  (∀ (c : Instr) (rest : List Instr) (s : State),
     step { s with pending := c :: rest } = exec c { s with pending := rest }) ∧
  (∀ s : State, s.pending = [] → step s = .next { s with live := { s.live with now := s.live.now + 1 } })

/-- Every command completes in every state; none touches the queue of waiting commands or the strap pins. That none stops
is log entry 30, that none touches the straps log entry 4. -/
def Obligations.CommandsCompleteAndKeepQueueAndStraps : Prop :=
  ∀ (c : Instr) (s : State), ∃ t, exec c s = .next t ∧ t.pending = s.pending ∧ t.straps = s.straps

/-! ### Start and reset (R180 and the start-up rules of the chapters) -/

/-- A start from any of its causes loads ACTIVE and PENDING from a good store and else the default image, takes the
store's protect set or the empty one, and leaves the part STARTING with its cause; a store word whose write it cuts off
holds the old set or the new one, and the store of a save that it cuts off has no fitting check (R161, R168, R172,
R180). What a start cuts off at the store: log entry 17. -/
def Obligations.StartLoadsTheStoreOrTheDefaultImage : Prop :=
  ∀ (c : Instr) (s : State) (cause : StartCause), startCause c s = some cause →
    ∃ t, exec c s = .next t ∧
      (s.startGood = true ↔ s.live.management.saving = none ∧
        s.store.check = some (bankCheck s.store.image) ∧ firstInvalid s.store.image = none) ∧
      t.active = (if s.startGood then s.store.image else []) ∧ t.loading = t.active ∧
      t.store.image = s.store.image ∧ 
      t.store.check = (if s.live.management.saving = none then s.store.check else none) ∧
      (t.store.protectSet = s.store.protectSet ∨
        s.live.management.inProgress = some (.protect t.store.protectSet) ∨
        s.live.management.inProgress = some (.unprotect t.store.protectSet)) ∧
      t.live.management =
        { inProgress := none, pointer := none, ruleRange := .idle,
          protectSet := if s.startGood then t.store.protectSet else 0, saving := none,
          storeInvalid := !s.startGood } ∧
      t.live.part =
        { state := .starting, cause := cause, ignitionTimer := none, ignitionOff := false, settleRequest := false,
          resetHeld := false, restartTimer := none }

/-- The start-up values of every block. The port, the classifier and the slots (R13, R32, R51): the STATUS_E place alone may
be READY, with the frame that STORE_INVALID asks for where the default image was loaded, and the spacing hold is set with
it (R179). The air source controller, the planner, the load budget, the sequencer, the cab link and the event unit (R72,
R97, R111, R137, R157, R179): the reset form of ROLLCALL is on the link, and STORE_INVALID is latched where the default
image was loaded. The default presented by a slot: log entry 27. A zone's demand, level and outlet target at start-up are
the model's choice (log entry 6). -/
def Obligations.StartValuesOfEveryBlock : Prop :=
  (∀ (c : Instr) (s t : State) (cause : StartCause), startCause c s = some cause → exec c s = .next t →
    t.live.port.unit = s.straps.unit ∧ t.live.port.fast = s.straps.fast ∧ t.live.port.joined = false ∧
    t.live.port.rxQueue = [] ∧ t.live.port.rxDropped = 0 ∧ t.live.port.txErrors = 0 ∧ t.live.port.rxErrors = 0 ∧
    t.live.port.places = (if s.startGood then Vector.replicate 7 Place.empty
      else (Vector.replicate 7 Place.empty).set 2
        (.ready { ident := 0x5F0 + s.straps.unit.toNat, data := [0x00, 0x00, 0x20, 0x81, 0x00] })) ∧
    t.live.classifier =
      { state := .idle, scan := none, counts := Vector.replicate 96 { hit := 0, short := 0, na := 0 }, unclaimed := 0 } ∧
    ∀ n : Fin 32, t.live.slots.get n =
      { belief := .never, value := (slotDef t.active n).default, rank := 3, since := none, clamped := false,
        clampCount := 0, outranked := 0, forced := none }) ∧
  (∀ (c : Instr) (s t : State) (cause : StartCause), startCause c s = some cause → exec c s = .next t →
     t.live.air =
       { index := none, mode := .shield, reason := some .start, exposure := false, rise := none, unknown := none,
         fall := none, purge := none, purgeLimit := none, boostTail := none, purgeElapsed := false, fraction := 0,
         intake := 0, filter := shieldFraction t.active, recirc := 1000 - shieldFraction t.active,
         shieldFloor := shieldFloorMin t.active, boost := .off, defrostCopy := false, defogLimited := false,
         cabIngress := false } ∧
     t.live.planner =
       { timer := none, defrost := false, previousDmax := none, stageTargets := Vector.replicate 4 false,
         zones := Vector.replicate 4
           { planned := false, integrator := 0, blend := 500, demand := 0, level := 0, outlet := 0, openLoop := false,
             spanLow := false, defrostFlag := false } } ∧
     t.live.budget =
       { band := .unknown, avail := baseBudget t.active * 50 / 100,
         consumers := Vector.replicate 20 { accepted := 0, transit := none, commitment := 0 }, shedList := [],
         capped := Vector.replicate 4 false }) ∧
  (∀ (c : Instr) (s t : State) (cause : StartCause), startCause c s = some cause → exec c s = .next t →
     t.live.sequencer =
       { actuators := Vector.replicate 20
           { state := .absent, position := 0, target := none, pendingTarget := none, overruns := 0, fault := none,
             guardTime := none, retryTime := none },
         queue := [], inFlight := [], suspended := none, armed := true, nextId := 0 } ∧
     t.live.link =
       { directory := [], state := .running, requests := [],
         onLink := some { owner := .rollcall, address := 0, command := .rollcall true, cls := .rollcall, joined := 0 },
         sent := false, replyWindow := none, rollcallTimer := none, probeTimer := none, attempts := 0,
         attempting := false, delayTimer := none, retryTimer := none, window := Vector.replicate 16 0,
         series := some { winner := none, failedBinds := [] }, leftOver := none, resetOwed := false, wake := .none } ∧
     t.live.events.mask = 0 ∧ t.live.events.statusTimer = some (statusPeriod t.active) ∧ t.live.events.owed = false ∧
     t.live.events.spacingHold = (if s.startGood then none else some 100) ∧
     t.live.events.latched = (if s.startGood then Vector.replicate 22 none
       else (Vector.replicate 22 none).set 21 (some 0)))

/-- The reset pin holds the part: what was in progress ends, the banks and the volatile state of the blocks stand, and
until the release no command has an effect. The model's reading of "held in reset": log entry 21. -/
def Obligations.ResetPinHoldsThePart : Prop :=
  (∀ s : State, s.held = false → ∃ t, exec .resetPinAssert s = .next t ∧ t.held = true ∧
    t.live.management.inProgress = none ∧ t.live.management.saving = none ∧ t.live.classifier.scan = none ∧
    t.live.link.onLink = none ∧ t.live.part.restartTimer = none ∧
    (∀ i : Fin 7, (t.live.port.places.get i).isSending = false) ∧ t.active = s.active ∧ t.loading = s.loading ∧
    t.live.slots = s.live.slots ∧ t.live.air = s.live.air ∧ t.live.planner = s.live.planner ∧
    t.live.budget = s.live.budget ∧ t.live.sequencer = s.live.sequencer ∧ t.live.events = s.live.events) ∧
  (∀ (c : Instr) (s : State), s.held = true → c ≠ .resetPinRelease → exec c s = .next s)

/-! ### Apparatus port (chapter 1) -/

/-- The two tables of R7: what placing a frame does to a place, and what the end of a transmission does to it. Nothing
else changes but the error counts of R10, and PORT_OFFLINE where the count reaches 256. -/
def Obligations.TransmitPlacesFollowTheTables : Prop :=
  (∀ (i : Fin 7) (f : TxFrame) (l : Live),
    let new : Place := match l.port.places.get i with
      | .empty => .ready f
      | .ready _ => .ready f
      | .sending g _ => .sending g (some f)
    placeFrame i f l = { l with port := { l.port with places := l.port.places.set i new } }) ∧
  (∀ (s : State) (i : Fin 7) (f : TxFrame) (g : Option TxFrame), s.held = false →
    s.live.port.sendingPlace = some i → s.live.port.places.get i = .sending f g →
    let p : Port := s.live.port
    let gone : Place := match g with
      | some h => .ready h
      | none => .empty
    let kept : Place := .ready (g.getD f)
    (restartSent s.live i = false →
      exec .transmitSuccess s = .next { s with live := { s.live with port :=
        { p with txErrors := p.txErrors - 1, places := p.places.set i gone } } }) ∧
    exec .arbitrationLost s = .next { s with live := { s.live with port := { p with places := p.places.set i kept } } } ∧
    (∀ noAck : Bool,
      let n := if noAck ∧ p.state = .errorPassive then p.txErrors else if 255 < p.txErrors + 8 then 256 else p.txErrors + 8
      let l : Live := { s.live with port := { p with txErrors := n, places := p.places.set i kept } }
      exec (.transmitError noAck) s =
        .next { s with live := if n = 256 then latch kPortOffline 256 l else l }))

/-- The port starts the READY place with the lowest identifier where it is on the bus with nothing of its own under way,
and else starts nothing (R8, R11, R13); the places stand in the order of their identifiers (R9). A reception that ends
with an error counts, up to 255 and not OFFLINE; the join puts the port on the bus; a rejoin sets both counts to 0 (R10,
R12, R13). A command whose event cannot occur changes nothing: log entry 2. -/
def Obligations.PortStartsCountsJoinsAndRejoins : Prop :=
  (∀ (s : State) (i : Fin 7) (f : TxFrame), s.held = false → s.live.port.onBus = true →
    s.live.port.sendingPlace = none → s.live.port.places.get i = .ready f →
    (∀ j : Fin 7, j < i → (s.live.port.places.get j).isReady = false) →
    let p : Port := { s.live.port with places := s.live.port.places.set i (.sending f none) }
    exec .transmitStart s = .next { s with live := { s.live with port := p } }) ∧
  (∀ s : State, s.held = false →
    s.live.port.onBus = false ∨ s.live.port.sendingPlace ≠ none ∨
      (∀ j : Fin 7, (s.live.port.places.get j).isReady = false) →
    exec .transmitStart s = .next s) ∧
  (∀ (u : BitVec 4) (z y : Fin 4), replyIdent u < statusAIdent u ∧ statusAIdent u < statusEIdent u ∧
    statusEIdent u < statusZIdent u z ∧ (z < y → statusZIdent u z < statusZIdent u y)) ∧
  (∀ s : State, s.held = false →
    let p : Port := s.live.port
    let n := if p.rxErrors < 255 then p.rxErrors + 1 else p.rxErrors
    exec .receiveError s =
      .next (if p.onBus then { s with live := { s.live with port := { p with rxErrors := n } } } else s) ∧
    exec .portJoin s = .next { s with live := { s.live with port := { p with joined := true } } } ∧
    exec .portRejoin s = .next (if p.state = .offline
      then { s with live := { s.live with port := { p with txErrors := 0, rxErrors := 0 } } } else s))

/-- The routing of a received frame (R1 to R5, R10, R11, R13, R158): nothing off the bus; a remote frame only counts as a
reception; a data frame joins the receive queue or is dropped with RX_OVERFLOW; in WATCH a frame that matches no wake
pattern is discarded, and one that does is queued and ends WATCH. A BASE data frame on the request identifier reaches the
management unit in every part state: the request that its data carries is carried out, and data that carry none are
answered BAD_REQUEST; off the bus no request is taken. The count at a remote frame is log entry 7, the wake with the link
FAILED log entry 22, what a request command stands for log entry 3, BAD_REQUEST while a completion request is in progress
log entry 8. -/
def Obligations.FramesAreRoutedAtTheirArrival : Prop :=
  (∀ (s : State) (f : BusFrame), s.held = false →
    (s.live.port.onBus = false → exec (.frameArrival f) s = .next s) ∧
    (s.live.port.onBus = true →
      let rec' : RxFrame := { format := f.format, ident := f.ident, data := f.data.take (min f.dlc 8) }
      let p : Port := { s.live.port with rxErrors := s.live.port.rxErrors - 1 }
      let heard : Live := { s.live with port := p }
      let dropped := if p.rxDropped < 65535 then p.rxDropped + 1 else p.rxDropped
      (f.remote = true → exec (.frameArrival f) s = .next { s with live := heard }) ∧
      (f.remote = false → ¬(f.format = .base ∧ f.ident = 0x5C0 + s.live.port.unit.toNat) →
        (s.live.part.state ≠ .watch →
          let l : Live := if p.rxQueue.length < 16 then { heard with port := { p with rxQueue := p.rxQueue ++ [rec'] } }
            else latch kRxOverflow f.ident { heard with port := { p with rxDropped := dropped } }
          exec (.frameArrival f) s = .next { s with live := l }) ∧
        (s.live.part.state = .watch → (∀ k : Fin 4, (wakePattern s.active k).matches rec' = false) →
          exec (.frameArrival f) s = .next { s with live := heard }) ∧
        (s.live.part.state = .watch → (∃ k : Fin 4, (wakePattern s.active k).matches rec' = true) →
          ∃ t, exec (.frameArrival f) s = .next t ∧
            t.live.port.rxQueue = (if p.rxQueue.length < 16 then p.rxQueue ++ [rec'] else p.rxQueue) ∧
            t.live.part.state = (if s.live.link.state = .failed then .run else .waking) ∧
            t.live.slots = s.live.slots ∧ t.active = s.active ∧ t.loading = s.loading ∧ t.store = s.store)))) ∧
  (∀ (s : State) (data : List Byte), s.held = false → s.live.port.onBus = true → data.length ≤ 8 →
    let f : BusFrame :=
      { format := .base, ident := 0x5C0 + s.live.port.unit.toNat, remote := false, dlc := data.length, data := data }
    let heard : State := { s with live := { s.live with port := { s.live.port with rxErrors := s.live.port.rxErrors - 1 } } }
    exec (.frameArrival f) s = (match decodeRequest data with
      | some r => exec (commandOf r) heard
      | none => exec (.unknownRequest data) heard)) ∧
  (∀ (s : State) (data : List Byte), s.held = false → s.live.port.onBus = true → s.live.part.state ≠ .watch →
    ¬(s.live.part.state = .waking ∧ s.live.link.state = .failed) →
    exec (.unknownRequest data) s = .next (answer (byteAt data 0) 3 [] s)) ∧
  (∀ (s : State) (r : Request) (data : List Byte), s.held = false → s.live.port.onBus = false →
    exec (commandOf r) s = .next s ∧ exec (.unknownRequest data) s = .next s)

/-- Request frames decode to what they encode: for every request whose arguments a frame can carry, the decoder reads the
request back from its frame's data, which are 1 to 8 bytes; and whatever the decoder reads has arguments a frame can
carry (R185). -/
def Obligations.RequestFramesDecodeToTheirRequests : Prop :=
  (∀ r : Request, r.wf = true →
    decodeRequest (encodeRequest r) = some r ∧ 1 ≤ (encodeRequest r).length ∧ (encodeRequest r).length ≤ 8) ∧
  (∀ (data : List Byte) (r : Request), decodeRequest data = some r → r.wf = true)

/-! ### Management requests in general (chapter 9) -/

/-- A reply is eight bytes, the code, the result and six data bytes, those not given 0, placed in REPLY under the unit's
reply identifier; placing it changes nothing else (R7, R9, R158, R185). While a completion request is in progress every
further request is answered BUSY and changes nothing but the REPLY place; a request that arrives in WATCH, and a frame on the
request identifier that carries none, is taken as if the part had entered WAKING first (R158, R183). In WAKING with the link
FAILED the reply is placed and the part then enters RUN (R156): log entry 22. -/
def Obligations.RepliesAndBusyRequests : Prop :=
  (∀ (code : Byte) (result : Nat) (data : List Byte) (s : State),
     let six := (data ++ [0, 0, 0, 0, 0, 0]).take 6
     six.length = 6 ∧
     let f : TxFrame := { ident := 0x5D0 + s.live.port.unit.toNat, data := code :: byte result :: six }
     let p : Port := { s.live.port with places := s.live.port.places.set 0 (Place.put f (s.live.port.places.get 0)) }
     answer code result data s = { s with live := { s.live with port := p } }) ∧
  ((∀ (r : Request) (s : State), s.held = false → s.live.port.onBus = true → s.live.part.state ≠ .watch →
     ¬(s.live.part.state = .waking ∧ s.live.link.state = .failed) → s.live.management.inProgress ≠ none →
     exec (commandOf r) s = .next (answer (requestCode r) 2 [] s)) ∧
   (∀ (r : Request) (s : State), s.held = false → s.live.port.onBus = true → s.live.part.state = .watch →
     exec (commandOf r) s = exec (commandOf r) { s with live := enterWaking s.active s.live }) ∧
   (∀ (data : List Byte) (s : State), s.held = false → s.live.port.onBus = true → s.live.part.state = .watch →
     exec (.unknownRequest data) s = exec (.unknownRequest data) { s with live := enterWaking s.active s.live }) ∧
   (∀ s : State, s.held = false → s.live.port.onBus = true → s.live.part.state = .waking →
     s.live.link.state = .failed →
     let ran := fun t : State => Host.Outcome.next { t with live := enterRun s.active t.live }
     (∀ data : List Byte, exec (.unknownRequest data) s = ran (answer (byteAt data 0) 3 [] s)) ∧
     (∀ r : Request, s.live.management.inProgress ≠ none →
       exec (commandOf r) s = ran (answer (requestCode r) 2 [] s))))

/-! ### Reports and banks (R163, R171, R50, R133, R146) -/

/-- READ_PAGE, COPY_ACTIVE and CHECK_PENDING (R163): six bytes from the offset, wrapping in the page, or RANGE; PENDING made
a copy of ACTIVE with its check in the reply; both checks. The load pointer stands. -/
def Obligations.BankRequestsReadAndCopy : Prop :=
  ∀ s : State, s.takes = true →
    (∀ bank page offset : Nat,
      exec (.readPage bank page offset) s = .next (
        if page ≤ 19 ∧ offset ≤ 127 ∧ bank ≤ 1 then
          answer 0x22 0 ((List.range 6).map fun k =>
            readByte (if bank = 0 then s.active else s.loading) (128 * page + (offset + k) % 128)) s
        else answer 0x22 4 [] s)) ∧
    exec .copyActive s = .next (answer 0x23 0 (bytes16 (bankCheck s.active))
      { s with loading := s.active, live := { s.live with management := { s.live.management with ruleRange := .idle } } }) ∧
    exec .checkPending s = .next (answer 0x24 0 (bytes16 (bankCheck s.loading) ++ bytes16 (bankCheck s.active)) s)

/-- IDENTIFY, READ_SLOT, READ_ACTUATOR and READ_NODE report what they name and change nothing but REPLY (R50, R133, R146,
R171); a number outside its range and a part above 1 are refused RANGE (R170, R185). The report of an address that no
entry holds: log entry 19. -/
def Obligations.ReportsChangeOnlyTheReply : Prop :=
  ∀ s : State, s.takes = true →
    exec .identify s = .next (answer 0x01 0
      ([byte (s.live.port.unit.toNat + 16 * (if s.live.port.fast then 1 else 0) + 32 * s.live.part.cause.code),
        byte s.live.part.state.code] ++ bytes16 (bankCheck s.active) ++
        [byte (if s.live.management.saving.isSome then 1 else 0), byte s.live.management.protectSet.toNat]) s) ∧
    (∀ n : Fin 32,
      let r := s.live.slots.get n
      exec (.readSlot n.val 0) s = .next (answer 0x10 0
        ([byte (if r.forced.isSome then 4 else r.belief.code), byte r.rank] ++
          bytes16 (code16 (presented s.active s.live.slots n).value) ++ bytes16 (slotAge s.live.now r / 100)) s) ∧
      exec (.readSlot n.val 1) s = .next (answer 0x10 0
        ([byte (if r.clamped then 1 else 0), byte r.clampCount, byte r.outranked] ++
          (if r.forced.isSome then byte r.belief.code :: bytes16 (code16 r.value) else [0xFF, 0xFF, 0xFF])) s)) ∧
    (∀ r : Role,
      let a := s.live.sequencer.actuators.get r
      exec (.readActuator r.val 0) s = .next (answer 0x18 0
        ([byte a.state.code, byte (holderCode s.live r)] ++ bytes16 a.position ++
          bytes16 ((a.target.map (·.level)).getD 0xFFFF)) s) ∧
      exec (.readActuator r.val 1) s = .next (answer 0x18 0
        ([byte ((a.target.map fun t => if t.urgent then 1 else 0).getD 0xFF)] ++
          bytes16 ((a.pendingTarget.map (·.level)).getD 0xFFFF) ++
          [byte ((a.pendingTarget.map fun t => if t.urgent then 1 else 0).getD 0xFF), byte a.overruns,
            byte (faultCode a.fault)]) s)) ∧
    (∀ address : Nat, 1 ≤ address → address ≤ 16 →
      exec (.readNode address 0) s = .next (answer 0x1C 0 (match s.live.link.nodeAt address with
        | some n => bytes32 n.serial ++ [byte n.kind, byte n.state.code]
        | none => [0xFF, 0xFF, 0xFF, 0xFF, 0xFF, 0xFF]) s) ∧
      exec (.readNode address 1) s = .next (answer 0x1C 0 (match s.live.link.nodeAt address with
        | some n => [byte n.consecutive, byte n.total]
        | none => [0xFF, 0xFF]) s)) ∧
    (∀ n part : Nat, (31 < n ∨ 1 < part → exec (.readSlot n part) s = .next (answer 0x10 4 [] s)) ∧
      (19 < n ∨ 1 < part → exec (.readActuator n part) s = .next (answer 0x18 4 [] s)) ∧
      (n = 0 ∨ 16 < n ∨ 1 < part → exec (.readNode n part) s = .next (answer 0x1C 4 [] s)))

/-! ### Frame classifier (chapter 2) -/

/-- SCAN_FRAME: an idle classifier outside WATCH removes the head of a receive queue that holds a frame and scans it
whole against the ACTIVE rules of that moment, rule 0 first; it is IDLE again after it. Else nothing is scanned (R14,
R15). The scan from rule `n` on: the first matching rule takes the frame. Too short a frame counts short and ends the
scan, a VETO counts a hit and ends it, a LATCH rule acts and with chain set the scan goes on behind it. Where no rule
matches, a frame that none took is UNCLAIMED (R17 to R21). That the scan is one event, and that nothing happens else: log
entries 2 and 27. -/
def Obligations.ScanFrameScansTheHeadByTheFirstMatchingRules : Prop :=
  (∀ s : State, s.held = false →
    (∀ (f : RxFrame) (rest : List RxFrame), s.live.port.rxQueue = f :: rest → s.live.part.state ≠ .watch →
      s.live.classifier.state = .idle →
      let begun : Live := { s.live with
        port := { s.live.port with rxQueue := rest }
        classifier := { s.live.classifier with
          state := .scanning, scan := some { frame := f, table := s.active, position := 0 } } }
      let l := scanRules s.active s.active f 96 0 false begun
      let ended : Live := { l with classifier := { l.classifier with state := .idle, scan := none } }
      exec .scanFrame s = .next { s with live := settleCheck ended }) ∧
    (s.live.port.rxQueue = [] ∨ s.live.part.state = .watch ∨ s.live.classifier.state ≠ .idle →
      exec .scanFrame s = .next { s with live := settleCheck s.live })) ∧
  (∀ (img table : Bank) (f : RxFrame) (n : Nat) (taken : Bool) (l : Live),
    (∀ m : Nat, n ≤ m → m < 96 → (∀ k, n ≤ k → k < m → (ruleAt table k).matches f = false) →
      (ruleAt table m).matches f = true →
      let r := ruleAt table m
      scanRules img table f (96 - n) n taken l =
        if f.data.length < r.minLen then countShort m l
        else if r.veto then countHit m l
        else if r.chain then scanRules img table f (96 - (m + 1)) (m + 1) true (scanAt (m + 1) (latchRule img m r f l))
        else latchRule img m r f l) ∧
    ((∀ k, n ≤ k → k < 96 → (ruleAt table k).matches f = false) →
      scanRules img table f (96 - n) n taken l = if taken then l else countUnclaimed l))

/-- A rule matches a frame exactly when it is enabled, has the frame's format, and agrees with the frame's identifier in
every bit set in its mask (R17). A LITTLE field is built from the data bits start to start + width − 1, bit start + i with
weight 2^i (R22); a BIG field is the byte at start / 8, or 256 times that byte plus the next (R23). A signed raw value is
read as two's complement of the field's width, an unsigned one as it stands (R24). -/
def Obligations.RulesMatchAndReadTheirFields : Prop :=
  (∀ (r : Rule) (f : RxFrame), r.matches f = true ↔
     r.enabled = true ∧ r.format = f.format ∧
       ∀ k : Nat, r.mask.testBit k = true → f.ident.testBit k = r.ident.testBit k) ∧
  (∀ (r : Rule) (data : List Byte),
     (r.big = false →
       rawBits r data = ((List.range r.width).map fun i =>
         if (byteAt data ((r.start + i) / 8)).getLsbD ((r.start + i) % 8) then 2 ^ i else 0).sum ∧
       rawBits r data < 2 ^ r.width) ∧
     (r.big = true → r.start % 8 = 0 →
       (r.width = 8 → rawBits r data = (byteAt data (r.start / 8)).toNat ∧
         rawBits r data = rawBits { r with big := false } data) ∧
       (r.width = 16 → rawBits r data =
         256 * (byteAt data (r.start / 8)).toNat + (byteAt data (r.start / 8 + 1)).toNat))) ∧
  (∀ (r : Rule) (raw : Nat), 1 ≤ r.width → raw < 2 ^ r.width →
     signRead r raw = (if r.signed ∧ raw.testBit (r.width - 1) then (raw : Int) - 2 ^ r.width else (raw : Int)) ∧
     (r.signed = true → -(2 : Int) ^ (r.width - 1) ≤ signRead r raw ∧ signRead r raw < (2 : Int) ^ (r.width - 1)) ∧
     (r.signed = false → signRead r raw = raw))

/-- The not-available test is made on the bits of the rule's own field before they are read as signed: with na_mode ALL_ONES
and every bit of the width set the rule's NA count moves and nothing is offered; else the value is scaled, offered to the
rule's slot at the rule's rank, and a hit counted (R20, R26, R28, R29). -/
def Obligations.LatchRulesTestOfferAndCount : Prop :=
  ∀ (img : Bank) (n : Fin 96) (r : Rule) (f : RxFrame) (l : Live),
    let raw := rawBits r f.data
    let c := l.classifier.counts.get n
    let na : RuleCounts := { c with na := if c.na < 65535 then c.na + 1 else c.na }
    let hit : RuleCounts := { c with hit := if c.hit < 65535 then c.hit + 1 else c.hit }
    (r.allOnes = true ∧ raw = 2 ^ r.width - 1 →
      latchRule img n.val r f l =
        { l with classifier := { l.classifier with counts := l.classifier.counts.set n na } }) ∧
    (¬(r.allOnes = true ∧ raw = 2 ^ r.width - 1) →
      let o := offerSlot img r.slot (scaled r (signRead r raw)) r.rank l
      latchRule img n.val r f l =
        { o with classifier := { l.classifier with counts := l.classifier.counts.set n hit } })

/-- The scaled value less the offset is raw times gain divided by 1024, to the nearest integer with halves away from zero,
and it lies in the range that R27 gives; a gain of 0 gives the offset (R27). -/
def Obligations.ScalingRoundsHalvesAwayFromZero : Prop :=
  ∀ (r : Rule) (raw : Int),
    let q := scaled r raw - r.offset
    let product := raw * r.gain
    2 * (1024 * q - product) ≤ 1024 ∧ -1024 ≤ 2 * (1024 * q - product) ∧
    (2 * (1024 * q - product) = 1024 → 0 < product) ∧ (2 * (1024 * q - product) = -1024 → product < 0) ∧
    (r.gain = 0 → scaled r raw = r.offset) ∧
    (-65535 ≤ raw → raw ≤ 65535 → -32768 ≤ r.gain → r.gain ≤ 32767 → -32768 ≤ r.offset → r.offset ≤ 32767 →
      -2129888 ≤ scaled r raw ∧ scaled r raw ≤ 2129888)

/-! ### Signal slots (chapter 3) -/

/-- An offer to a slot: discarded where the slot is disabled; counted as outranked and dropped where the slot, or its
underlying belief, is FRESH at a better rank and its lapse is not due; else accepted: clamped (R39), kept with its rank, the
age at 0 and both expiries counted from now, and one notice sent unless the slot is FORCED. That an offer taken together with
the lapse of a slot that is still FRESH, its hold_time being 0, is accepted at any rank is the model's reading of R44 beside
R38 and R40: log entry 37. -/
def Obligations.OffersAreRankedClampedAndKept : Prop :=
  ∀ (img : Bank) (n : Fin 32) (value : Int) (rank : Nat) (l : Live),
    let d := slotDef img n
    let s := l.slots.get n
    let out := decide (value < d.lo ∨ d.hi < value)
    let due := ∃ t, s.since = some t ∧ t + (d.maxAge + d.holdTime) * 100 ≤ l.now
    let new : Slot :=
      { s with
        belief := .fresh, rank := rank, since := some l.now, clamped := out
        value := if value < d.lo then d.lo else if d.hi < value then d.hi else value
        clampCount := if out then (if s.clampCount < 255 then s.clampCount + 1 else s.clampCount) else s.clampCount }
    (d.enabled = false → offerSlot img n value rank l = l) ∧
    (d.enabled = true → s.belief = .fresh → s.rank < rank → ¬due →
      let beaten : Slot := { s with outranked := if s.outranked < 255 then s.outranked + 1 else s.outranked }
      offerSlot img n value rank l = { l with slots := l.slots.set n beaten }) ∧
    (d.enabled = true → ¬(s.belief = .fresh ∧ s.rank < rank) ∨ due →
      offerSlot img n value rank l =
        (if s.forced.isSome then { l with slots := l.slots.set n new }
         else notify img n { l with slots := l.slots.set n new }) ∧
      staleDue img n new = (if d.holdTime = 0 then none else some (l.now + d.maxAge * 100)) ∧
      lapseDue img n new = some (l.now + (d.maxAge + d.holdTime) * 100))

/-- The expiries of a slot: at max_age a FRESH slot goes STALE with value and rank kept, where hold_time is not 0; at
max_age + hold_time a FRESH or STALE slot goes LAPSED and takes its default, and SLOT_LAPSED is latched with its number.
One notice is sent unless the slot is FORCED (R42, R43, R46). FORCE_SLOT takes a value within the slot's limits: the slot
is FORCED with it, its underlying belief stands, and one notice is sent; RELEASE_SLOT gives a FORCED slot back with one
notice and changes no other. A value outside the limits and a slot above 31 are refused RANGE (R45, R47). The clock at an
expiry, and an expiry that cannot occur: log entry 2. -/
def Obligations.SlotsAgeAndAreForced : Prop :=
  (∀ (s : State) (n : Fin 32) (t : Nat), s.held = false → (s.live.slots.get n).since = some t →
    let d := slotDef s.active n
    let r := s.live.slots.get n
    let told := fun l : Live => if r.forced.isSome then l else notify s.active n l
    let stale : Live :=
      { s.live with
        now := max s.live.now (t + d.maxAge * 100), slots := s.live.slots.set n { r with belief := .stale } }
    let lapsed : Live :=
      { s.live with
        now := max s.live.now (t + (d.maxAge + d.holdTime) * 100)
        slots := s.live.slots.set n { r with belief := .lapsed, value := d.default } }
    (r.belief = .fresh → d.holdTime ≠ 0 → exec (.slotStaleExpiry n) s = .next { s with live := told stale }) ∧
    (r.belief = .fresh ∨ r.belief = .stale →
      exec (.slotLapseExpiry n) s = .next { s with live := told (latch kSlotLapsed n.val lapsed) }) ∧
    (r.belief ≠ .fresh ∨ d.holdTime = 0 → exec (.slotStaleExpiry n) s = .next s) ∧
    (r.belief = .never ∨ r.belief = .lapsed → exec (.slotLapseExpiry n) s = .next s)) ∧
  (∀ (s : State) (n : Fin 32), s.takes = true →
    let d := slotDef s.active n
    let r := s.live.slots.get n
    let told := fun forced : Option Int =>
      { s with live := notify s.active n { s.live with slots := s.live.slots.set n { r with forced := forced } } }
    (∀ value : Int,
      exec (.forceSlot n.val value) s = .next (resetRange
        (if d.lo ≤ value ∧ value ≤ d.hi then answer 0x11 0 [] (told (some value)) else answer 0x11 4 [] s))) ∧
    exec (.releaseSlot n.val) s = .next (resetRange (answer 0x12 0 [] (if r.forced.isSome then told none else s))) ∧
    (∀ (k : Nat) (value : Int), 31 < k →
      exec (.forceSlot k value) s = .next (resetRange (answer 0x11 4 [] s)) ∧
      exec (.releaseSlot k) s = .next (resetRange (answer 0x12 4 [] s))))

/-- The presented value and validity of a slot by its state, and what "valid and true" and "valid and false" mean (R36). -/
def Obligations.PresentedPairFollowsTheState : Prop :=
  ∀ (img : Bank) (slots : Vector Slot 32) (n : Fin 32),
    let s := slots.get n
    let p := presented img slots n
    (∀ v, s.forced = some v → p = { value := v, valid := true }) ∧
    (s.forced = none → s.belief = .fresh ∨ s.belief = .stale → p = { value := s.value, valid := true }) ∧
    (s.forced = none → s.belief = .never ∨ s.belief = .lapsed →
      p = { value := (slotDef img n).default, valid := false }) ∧
    (p.isTrue = true ↔ p.valid = true ∧ p.value ≠ 0) ∧ (p.isFalse = true ↔ p.valid = true ∧ p.value = 0)

/-! ### Air source controller (chapter 4) -/

/-- The contamination index is UNKNOWN exactly where no haze slot is valid; else it is the greatest of the valid heads'
contributions, each value × weight / 256 rounded down and limited to 1000 (R52). -/
def Obligations.ContaminationIndexIsTheGreatestContribution : Prop :=
  ∀ (img : Bank) (l : Live),
    let valid := fun k : Fin 4 => (presented img l.slots (hazeSlot k)).valid = true
    let part := fun k : Fin 4 => min ((presented img l.slots (hazeSlot k)).value.toNat * hazeWeight img k / 256) 1000
    (indexNow img l = none ↔ ∀ k, ¬valid k) ∧
    (∀ x, indexNow img l = some x → x ≤ 1000 ∧ (∃ k, valid k ∧ x = part k) ∧ ∀ k, valid k → part k ≤ x)

/-- An entry to a mode, whatever led to it: the controller's whole state after it, with the targets of R54, the exposure
flag of R56, the timers of R57 and R62, the boost of R64, the floor of R65 and the conditions of R66 and R67; MODE_CHANGE
latched with mode and reason, DEFOG_LIMITED and CAB_INGRESS where their conditions rose, and the three targets issued where
the part is in RUN (R55). The order of the latches and of the issue: log entry 23. -/
def Obligations.ModeEntrySetsTheWholeController : Prop :=
  (∀ (img : Bank) (mode : Mode) (reason : Option Reason) (l : Live),
    let a := l.air
    let out := presented img l.slots outTempSlot
    let entry := presented img l.slots entrySlot
    let haze := presented img l.slots cabHazeSlot
    let shut := mode = .shield ∨ mode = .closed
    let f := if mode = .fresh then (if a.defrostCopy then 1000
        else if out.valid ∧ (out.value < coldLimit img ∨ hotLimit img < out.value) then freshMin img
        else freshNominal img)
      else a.fraction
    let new : Air :=
      { index := a.index, mode := mode, reason := reason
        exposure := if mode = .fresh then false else a.exposure || (decide shut && decide (reason = some .haze))
        rise := none, unknown := none, fall := none
        purge := if mode = .purge then some (l.now + purgeTime img * 1000) else none
        purgeLimit := if mode = .purge then some (l.now + purgeLimitTime img * 1000) else none
        boostTail := if shut then a.boostTail else none, purgeElapsed := false, fraction := f
        intake := if mode = .fresh then f else if mode = .purge then 1000 else 0
        filter := if mode = .shield then shieldFraction img else 0
        recirc := if mode = .fresh then 1000 - f else if mode = .shield then 1000 - shieldFraction img
          else if mode = .closed then 1000 else 0
        shieldFloor := if mode = .shield then shieldFloorMin img else a.shieldFloor
        boost := if ¬shut then .off else if a.mode = .shield ∨ a.mode = .closed then a.boost
          else if entry.valid ∧ entry.value ≠ 0 then .active else a.boost
        defrostCopy := a.defrostCopy, defogLimited := a.defrostCopy && decide shut
        cabIngress := decide (mode = .closed ∧ haze.valid ∧ (ingressLimit img : Int) < haze.value) }
    enterMode img mode reason l = issueTargets img (latchRisen a haze
      (latch kModeChange (mode.code + 4 * reasonCode reason) { l with air := new })) ∧
    (enterMode img mode reason l).air = new ∧ (enterMode img mode reason l).slots = l.slots ∧
    (enterMode img mode reason l).planner = l.planner ∧ (enterMode img mode reason l).now = l.now ∧
    (l.part.state ≠ .run → issueTargets img l = l) ∧
    (l.part.state = .run → issueTargets img l =
      let urgent := decide (a.mode = .shield ∨ a.mode = .closed)
      targetArrival img 1 { level := a.recirc, urgent := urgent }
        (targetArrival img 2 { level := a.filter, urgent := urgent }
          (targetArrival img 0 { level := a.intake, urgent := urgent } l)))) ∧
  (∀ (before : Air) (haze : Presented) (l : Live),
    let a := l.air
    let defog := if a.defogLimited = true ∧ before.defogLimited = false then latch kDefogLimited a.mode.code l else l
    latchRisen before haze l = if a.cabIngress = true ∧ before.cabIngress = false
      then latch kCabIngress haze.value.toNat defog else defog)

/-- The expiries of the mode machine's timers (R57 to R60, R62), X being what it was at the last haze notice. The clock
at an expiry is log entry 2, the order of PURGE_LIMIT log entry 23. -/
def Obligations.ModeTimersTakeTheirTransitions : Prop :=
  ∀ (s : State) (e : Nat), s.held = false →
    let img := s.active
    let a := s.live.air
    let l : Live := { s.live with now := max s.live.now e }
    let haze := presented img s.live.slots cabHazeSlot
    let calm := (presented img s.live.slots recircSlot).isTrue = false
    let clean := haze.valid = false ∨ haze.value ≤ (clearBelow img : Int)
    (a.mode = .fresh → a.rise = some e → calm →
      (∀ x, a.index = some x → shieldOn img ≤ x → x < closeOn img → clearBelow img ≤ shieldOn img →
        exec .riseTimerExpiry s =
          .next { s with live := enterMode img .shield (some .haze) { l with air := { a with rise := none } } })) ∧
    (a.mode = .fresh → a.unknown = some e → calm → a.index = none →
      exec .unknownTimerExpiry s =
        .next { s with live := enterMode img .shield (some .unknown) { l with air := { a with unknown := none } } }) ∧
    (a.mode = .shield → a.fall = some e → calm →
      (∀ x, a.index = some x → x < closeOn img → x < shieldOn img →
        let next : Mode := if a.exposure then .purge else .fresh
        exec .fallTimerExpiry s =
          .next { s with live := enterMode img next none { l with air := { a with fall := none } } })) ∧
    (a.mode = .closed → a.reason = some .haze → a.fall = some e → calm → fallDwell img ≠ 0 →
      let m := enterMode img .shield (some .haze) { l with air := { a with fall := none } }
      let fall := if a.index.any (fun x => decide (x < clearBelow img)) then some (m.now + fallDwell img * 100) else none
      exec .fallTimerExpiry s = .next { s with live := { m with air := { m.air with fall := fall } } }) ∧
    (a.mode = .closed → a.reason = some .haze → a.fall = some e → ¬calm →
      let held : Air := { a with reason := some .manual, rise := none, unknown := none, fall := none }
      exec .fallTimerExpiry s = .next { s with live := latch kModeChange (2 + 4 * 3) { l with air := held } }) ∧
    (a.mode = .purge → calm → (∀ x, a.index = some x → x < closeOn img → x < shieldOn img →
      (a.purge = some e →
        (clean → exec .purgeTimerExpiry s =
          .next { s with live := enterMode img .fresh none { l with air := { a with purge := none } } }) ∧
        (¬clean →
          let waits : Air := { a with purge := none, purgeElapsed := true, rise := none, unknown := none, fall := none }
          exec .purgeTimerExpiry s = .next { s with live := { l with air := waits } })) ∧
      (a.purgeLimit = some e →
        let m := enterMode img .fresh none { l with air := { a with purgeLimit := none } }
        exec .purgeLimitExpiry s = .next { s with live := latch kPurgeLimit haze.value.toNat m })))

/-- The notices of the air source controller's slots: a haze slot forms the index, with CONTAM_UNKNOWN latched where it goes
from a number to UNKNOWN, and has the mode machine evaluated, as do RECIRC_REQ and CAB_HAZE, the latter after the ingress test
(R53, R57, R66); OUT_TEMP works the fresh fraction out again in FRESH (R54, R55). An evaluation takes the first test of the
mode that holds (R57 to R62) and then starts and cancels the condition timers, a condition of duration 0 taking its transition
at once (R57). The boost at a notice of ENTRY_STATE and at the tail timer's expiry (R64), and the shield floor at a notice of
CAB_PRESSURE (R65): there nothing else changes, and the dampers' targets are not touched. The clock at an expiry is log entry
2, the order of PURGE_LIMIT log entry 23, the order of ingress test and evaluation log entry 38. -/
def Obligations.AirSourceControllerFollowsItsNotices : Prop :=
  (∀ (img : Bank) (l : Live),
    let x := indexNow img l
    let formed : Live := { l with air := { l.air with index := x } }
    let heard := if l.air.index ≠ none ∧ x = none then latch kContamUnknown l.air.mode.code formed else formed
    let haze := presented img l.slots cabHazeSlot
    let ingress := decide (l.air.mode = .closed) && haze.valid && decide ((ingressLimit img : Int) < haze.value)
    let tested : Live := { l with air := { l.air with cabIngress := ingress } }
    let out := presented img l.slots outTempSlot
    let f := if l.air.defrostCopy then 1000
      else if out.valid ∧ (out.value < coldLimit img ∨ hotLimit img < out.value) then freshMin img
      else freshNominal img
    let a : Air := { l.air with fraction := f, intake := f, filter := 0, recirc := 1000 - f }
    (∀ k : Fin 4, notify img (hazeSlot k) l = evaluate img .notice heard) ∧
    notify img recircSlot l = evaluate img .notice l ∧
    notify img cabHazeSlot l = evaluate img .cabHaze (if ingress = true ∧ l.air.cabIngress = false
      then latch kCabIngress haze.value.toNat tested else tested) ∧
    notify img outTempSlot l = if l.air.mode = .fresh ∧ f ≠ l.air.fraction then issueTargets img { l with air := a } else l) ∧
  (∀ (img : Bank) (t : Trigger) (l : Live),
    let a := l.air
    let above := fun limit : Nat => ∃ x, a.index = some x ∧ limit ≤ x
    let asked := (presented img l.slots recircSlot).isTrue = true
    let haze := presented img l.slots cabHazeSlot
    let clean := haze.valid = false ∨ haze.value ≤ (clearBelow img : Int)
    let named := fun reason : Reason => { a with reason := some reason }
    let changed := fun b : Air => latch kModeChange (b.mode.code + 4 * reasonCode b.reason) { l with air := b }
    evaluate img t l = settleTimers img 4 (applyTests img t l) ∧
    (a.mode = .fresh → applyTests img t l =
      if above (closeOn img) then enterMode img .closed (some .haze) l
      else if asked then enterMode img .closed (some .manual) l
      else if t = .rise then enterMode img .shield (some .haze) l
      else if t = .unknown then enterMode img .shield (some .unknown) l
      else l) ∧
    (a.mode = .shield → applyTests img t l =
      if above (closeOn img) then enterMode img .closed (some .haze) l
      else if asked then enterMode img .closed (some .manual) l
      else if above (shieldOn img) ∧ (a.reason = some .unknown ∨ a.reason = some .start) then
        changed { named .haze with exposure := true }
      else if t = .fall then enterMode img (if a.exposure then .purge else .fresh) none l
      else l) ∧
    (a.mode = .closed → a.reason = some .haze → applyTests img t l =
      if t ≠ .fall then l
      else if asked then changed { named .manual with fall := none }
      else enterMode img .shield (some .haze) l) ∧
    (a.mode = .closed → a.reason = some .manual → applyTests img t l =
      if above (closeOn img) then changed { named .haze with exposure := true }
      else if asked then l
      else if above (shieldOn img) ∨ a.exposure = true then enterMode img .shield (some .haze) l
      else if a.index = none then enterMode img .shield (some .unknown) l
      else enterMode img .fresh none l) ∧
    (a.mode = .purge → applyTests img t l =
      if above (closeOn img) then enterMode img .closed (some .haze) l
      else if above (shieldOn img) then enterMode img .shield (some .haze) l
      else if a.index = none then enterMode img .shield (some .unknown) l
      else if asked then enterMode img .closed (some .manual) l
      else if t = .purge then
        (if clean then enterMode img .fresh none l else { l with air := { a with purgeElapsed := true } })
      else if t = .cabHaze ∧ a.purgeElapsed = true ∧ clean then enterMode img .fresh none l
      else if t = .purgeLimit then latch kPurgeLimit haze.value.toNat (enterMode img .fresh none l)
      else l)) ∧
  (∀ (img : Bank) (n : Nat) (l : Live),
    let a := l.air
    let rises := a.mode = .fresh ∧ ∃ x, a.index = some x ∧ shieldOn img ≤ x
    let unknown := a.mode = .fresh ∧ a.index = none
    let falls := (a.mode = .shield ∧ ∃ x, a.index = some x ∧ x < clearBelow img) ∨
      (a.mode = .closed ∧ a.reason = some .haze ∧ ∃ x, a.index = some x ∧ x < closeOff img)
    let kept := fun (dwell : Nat) (t : Timer) => some (t.getD (l.now + dwell * 100))
    let timed : Air := { a with
      rise := if rises then kept (riseDwell img) a.rise else none
      unknown := if unknown then kept (unknownDwell img) a.unknown else none
      fall := if falls then kept (fallDwell img) a.fall else none }
    ((rises → a.rise = none → riseDwell img ≠ 0) → (unknown → a.unknown = none → unknownDwell img ≠ 0) →
      (falls → a.fall = none → fallDwell img ≠ 0) → settleTimers img n l = { l with air := timed }) ∧
    (rises → a.rise = none → riseDwell img = 0 →
      settleTimers img (n + 1) l = settleTimers img n (enterMode img .shield (some .haze) l)) ∧
    (unknown → a.unknown = none → unknownDwell img = 0 →
      settleTimers img (n + 1) l = settleTimers img n (enterMode img .shield (some .unknown) l)) ∧
    (falls → a.fall = none → fallDwell img = 0 → a.mode = .shield → settleTimers img (n + 1) l =
      settleTimers img n (enterMode img (if a.exposure then .purge else .fresh) none l)) ∧
    (falls → a.fall = none → fallDwell img = 0 → a.mode = .closed → settleTimers img (n + 1) l =
      settleTimers img n (if (presented img l.slots recircSlot).isTrue = true
        then latch kModeChange (2 + 4 * 3) { l with air := { a with reason := some .manual, fall := none } }
        else enterMode img .shield (some .haze) l))) ∧
  (∀ (img : Bank) (l : Live),
    let a := l.air
    let shut := a.mode = .shield ∨ a.mode = .closed
    let entered := (presented img l.slots entrySlot).isTrue = true
    let t := boostTailTime img
    (entered → shut → notify img entrySlot l = { l with air := { a with boost := .active, boostTail := none } }) ∧
    (entered → ¬shut → notify img entrySlot l = l) ∧
    (¬entered → a.boost = .active →
      let tail : Air := { a with boost := .tail, boostTail := some (l.now + t * 100) }
      notify img entrySlot l = { l with air := if t = 0 then { a with boost := .off } else tail }) ∧
    (¬entered → a.boost ≠ .active → notify img entrySlot l = l)) ∧
  (∀ (s : State) (e : Nat), s.held = false → s.live.air.boostTail = some e → s.live.air.boost = .tail →
    let a : Air := { s.live.air with boost := .off, boostTail := none }
    exec .boostTailExpiry s = .next { s with live := { s.live with now := max s.live.now e, air := a } }) ∧
  (∀ (img : Bank) (l : Live),
    let p := presented img l.slots pressureSlot
    let floor := l.air.shieldFloor
    let moved := if p.value < pressureTarget img then floor + shieldStep img
      else if pressureTarget img + (pressureBand img : Int) < p.value then floor - shieldStep img
      else floor
    let limited := if moved < shieldFloorMin img then min (shieldFloorMin img) 1000 else min moved 1000
    notify img pressureSlot l =
      if l.air.mode = .shield ∧ p.valid then { l with air := { l.air with shieldFloor := limited } } else l)

/-! ### Zone planner (chapter 5) -/

/-- PLAN_PASS: the pass is computed from one snapshot taken at the expiry, kept by the planner, and the plan timer starts
again with plan_period; the zones planned have their demand from Tc to Th and their blower target at most 1000; the
others are marked not planned with their integrator at 0 and their blend kept (R73, R74, R76, R85, R88). The shared
temperatures and the valve (R77 to R81), the defrost state and the planned zones (R75, R76), Dmax and the requested stage count
(R90), the targets handed on in their order (R92), and the defrost report after them, which works the fresh fraction out again
in FRESH and issues the targets where it changed (R54, R55, R67, R75). A zone whose SPAN_LOW flag goes from clear to set latches
SPAN_LOW with the zone number, zone 0 first, and the first newly set, unmasked one asks for a STATUS_E (R86, R174, R175),
which shows the flag that the zone has just set: log entry 42. The clock at an expiry: log entry 2. -/
def Obligations.PlanPassComputesFromItsSnapshot : Prop :=
  (∀ (s : State) (e : Nat), s.held = false → s.live.planner.timer = some e →
     let img := s.active
     let l : Live := { s.live with now := max s.live.now e }
     let defrost := defrostNow img l
     ∃ t, exec .planPass s = .next t ∧ t.live = planPass img l ∧
       t.live.planner = { (computePass img l).planner with timer := some (l.now + planPeriod img) } ∧
       t.live.now = l.now ∧ t.live.slots = s.live.slots ∧ t.live.part = s.live.part ∧
       t.active = s.active ∧ t.loading = s.loading ∧ t.store = s.store ∧
       t.live.planner.defrost = defrost ∧
       ∀ z : Fin 4,
         let old := s.live.planner.zones.get z
         let new := t.live.planner.zones.get z
         (zonePlanned img l defrost z = true →
           new = (planZone (passContext img l defrost) (profile img z) z (seen img l (cabTempSlot z))
             (seen img l (setpointSlot z)) (seen img l (fanSlot z)) old).1 ∧
           coldSide img l ≤ new.demand ∧ new.demand ≤ hotSide img l ∧ new.level ≤ 1000) ∧
         (zonePlanned img l defrost z = false →
           new = { old with planned := false, integrator := 0, openLoop := false, spanLow := false,
                            defrostFlag := false })) ∧
  (∀ (img : Bank) (s : Live),
    let seen := presented img s.slots
    let out := seen outTempSlot
    let counts := fun z : Fin 4 => (seen (cabTempSlot z)).valid && (profile img z).enabled
    let cabs := ([0, 1, 2] : List (Fin 4)).filter counts
    let cab := if cabs = [] then (if out.valid then out.value else 200)
      else Int.tdiv (cabs.map fun z => (seen (cabTempSlot z)).value).sum cabs.length
    let outside := if out.valid then out.value else cab
    let fresh := s.air.intake + s.air.filter
    let weighed := (fresh : Int) * outside + (1000 - (fresh : Int)) * cab
    let mix := mixTemperature img s
    let cold := if (seen coolingSlot).isTrue ∧ (seen evapSlot).valid then (seen evapSlot).value else mix
    let coolant := seen coolantSlot
    let opened := coolant.valid = true ∧ coolantMin img ≤ coolant.value ∧ cold < s.planner.previousDmax.getD cold
    let core := if opened then coolant.value - coreDrop img else cold
    let stages := ((List.finRange 20).filter fun r => decide (16 ≤ r.val) && (s.budget.consumers.get r).accepted == 1000).length
    cabAverage img s = cab ∧ outTemperature img s = outside ∧
    (-1000 ≤ 2 * (weighed - 1000 * mix) ∧ 2 * (weighed - 1000 * mix) ≤ 1000 ∧
      (2 * (weighed - 1000 * mix) = 1000 → weighed < 0) ∧ (2 * (weighed - 1000 * mix) = -1000 → 0 < weighed)) ∧
    coldSide img s = cold ∧ (valveOpen img s = true ↔ opened) ∧
    hotSide img s = max core cold + (stageRise img : Int) * stages) ∧
  (∀ (img : Bank) (s : Live),
    let seen := presented img s.slots
    let defrost := defrostNow img s
    let out := seen outTempSlot
    let shut := s.air.mode = .shield ∨ s.air.mode = .closed
    let on := seen zoneOnSlot
    (defrost = true ↔ (seen defrostSlot).isTrue = true ∨ (shut ∧ out.valid = true ∧ out.value < defrostAuto img)) ∧
    (∀ z : Fin 4, zonePlanned img s defrost z = true ↔ (profile img z).enabled = true ∧
      (on.valid = false ∨ on.value.toNat.testBit z.val = true ∨ (defrost = true ∧ z = 0))) ∧
    let c := passContext img s defrost
    c = { tc := coldSide img s, th := hotSide img s, spanMin := spanMin img, defrost := defrost, mode := s.air.mode,
          boosting := decide (s.air.boost ≠ .off), boostLevel := boostLevel img, shieldFloor := s.air.shieldFloor } ∧
    let raw := fun z : Fin 4 => (planZone c (profile img z) z (seen (cabTempSlot z)) (seen (setpointSlot z))
      (seen (fanSlot z)) (s.planner.zones.get z)).2
    let planned := (List.finRange 4).filter fun z => zonePlanned img s defrost z
    let t := computePass img s
    let stages := (List.finRange 4).filter fun n => decide ((binding img (stageRole n)).serial ≠ 0)
    t.slots = s.slots ∧ t.air = s.air ∧ t.budget = s.budget ∧ t.sequencer = s.sequencer ∧ t.planner.defrost = defrost ∧
    (∃ d, t.planner.previousDmax = some d ∧
      (defrost = true → d = hotSide img s) ∧
      (defrost = false → planned = [] → d = coldSide img s) ∧
      (defrost = false → planned ≠ [] → (∃ z ∈ planned, d = raw z) ∧ ∀ z ∈ planned, raw z ≤ d) ∧
      ∃ n : Nat,
        let short := d - coreOrCold img s
        (short ≤ 0 → n = 0) ∧
        (0 < short → 1 ≤ stageRise img →
          short ≤ n * (stageRise img : Int) ∧ ((n : Int) - 1) * stageRise img < short) ∧
        (1 ≤ stageRise img →
          t.planner.stageTargets = stepStages stages (min n stages.length) s.planner.stageTargets))) ∧
  (∀ (img : Bank) (s : Live),
    let t := computePass img s
    let low := fun (p : Planner) (z : Fin 4) => (p.zones.get z).spanLow
    let rises := (List.finRange 4).filter fun z => low t.planner z && !low s.planner z
    let e := s.events
    (rises = [] → t.events = e ∧ t.port = s.port) ∧
    (∀ z, rises.getLast? = some z → t.events.latched = e.latched.set kSpanLow (some z.val)) ∧
    t.events.mask = e.mask ∧ t.events.statusTimer = e.statusTimer ∧
    ∀ z, rises.head? = some z →
      let newly := e.latched.get kSpanLow = none ∧ e.mask.getLsbD 6 = false
      let latched : Live := { s with
        planner := { s.planner with
          defrost := t.planner.defrost
          zones := Vector.ofFn fun y => if y ≤ z then t.planner.zones.get y else s.planner.zones.get y }
        events := { e with latched := e.latched.set kSpanLow (some z.val) } }
      let asked := if newly then askStatusE latched else latched
      t.port = asked.port ∧ t.events.owed = asked.events.owed ∧ t.events.spacingHold = asked.events.spacingHold) ∧
  (∀ (img : Bank) (s : Live),
    let t := computePass img s
    let zone := t.planner.zones.get
    let order := [((3 : Role), if valveOpen img s then 1000 else 0)] ++
      ((List.finRange 4).flatMap fun z => if (zone z).planned
        then [(blendRole z, (zone z).blend), (outletRole z, (zone z).outlet), (blowerRole z, (zone z).level)]
        else [(blowerRole z, 0)]) ++
      ((List.finRange 4).filter fun n => decide ((binding img (stageRole n)).serial ≠ 0)).map fun n =>
        (stageRole n, if t.planner.stageTargets.get n then 1000 else 0)
    let handed := order.foldl (fun l x => targetArrival img x.1 { level := x.2, urgent := false } l) t
    let reported := if t.planner.defrost = s.planner.defrost then handed else defrostReport img t.planner.defrost handed
    (planPass img s).sequencer = reported.sequencer ∧ (planPass img s).air = reported.air ∧
    (planPass img s).budget = reported.budget ∧ (planPass img s).link = reported.link ∧
    (planPass img s).events = reported.events ∧ (planPass img s).port = reported.port ∧
    (planPass img s).planner = { t.planner with timer := some (s.now + planPeriod img) }) ∧
  (∀ (img : Bank) (active : Bool) (l : Live),
    let shut := l.air.mode = .shield ∨ l.air.mode = .closed
    let told : Live := { l with air := { l.air with defrostCopy := active, defogLimited := active && decide shut } }
    let noted := if active = true ∧ shut ∧ l.air.defogLimited = false
      then latch kDefogLimited l.air.mode.code told else told
    defrostReport img active l = reworkFraction img noted) ∧
  (∀ (img : Bank) (l : Live),
    let out := presented img l.slots outTempSlot
    let f := if l.air.defrostCopy then 1000
      else if out.valid ∧ (out.value < coldLimit img ∨ hotLimit img < out.value) then freshMin img
      else freshNominal img
    let a : Air := { l.air with fraction := f, intake := f, filter := 0, recirc := 1000 - f }
    reworkFraction img l = if l.air.mode = .fresh ∧ f ≠ l.air.fraction then issueTargets img { l with air := a } else l)

/-- The computation of a planned zone, in the rules' own figures: S, e, P, the anti-windup test, D_raw, D, the blend and
SPAN_LOW, the blower level with its floors and overrides, and the outlet; an open-loop zone takes e of 0 and D_raw of S with
its integrator kept, and zone 0 in defrost takes Th, its Wmax and SCREEN with its integrator frozen (R82 to R89). The
rounding of the candidate: log entry 29. -/
def Obligations.PlannedZoneFollowsTheRules : Prop :=
  ∀ (c : PassContext) (pr : Profile) (z : Fin 4) (cab request fan : Presented) (old : Zone), c.tc ≤ c.th →
    let frozen := c.defrost = true ∧ z = 0
    let s := if request.valid then
        (if request.value < pr.sLo then pr.sLo else if pr.sHi < request.value then pr.sHi else request.value)
      else pr.setpoint
    let diff := s - cab.value
    let e := if cab.valid = false then 0 else if diff < -300 then -300 else if 300 < diff then 300 else diff
    let p := Int.tdiv ((pr.kp : Int) * e) 16
    let sum := old.integrator + Int.tdiv ((pr.ki : Int) * e) 64
    let candidate := if sum < -(pr.ilim : Int) then -(pr.ilim : Int) else if (pr.ilim : Int) < sum then pr.ilim else sum
    let test := s + p + Int.tdiv old.integrator 16
    let i := if cab.valid = false ∨ frozen ∨ (c.th < test ∧ 0 < e) ∨ (test < c.tc ∧ e < 0) then old.integrator
      else candidate
    let raw := if cab.valid = false then s else s + p + Int.tdiv i 16
    let limited := fun w : Nat => if w < pr.wmin then pr.wmin else if pr.wmax < w then pr.wmax else w
    let level := if fan.valid ∧ 0 < fan.value then limited fan.value.toNat else limited (pr.wmin + pr.gw * e.natAbs / 8)
    let boosted := if c.boosting ∧ z ≠ 3 ∧ level < c.boostLevel then c.boostLevel else level
    let floored := if c.mode = .shield ∧ boosted < c.shieldFloor then c.shieldFloor else boosted
    let wanted := if frozen ∨ c.mode = .purge then pr.wmax else floored
    let r := planZone c pr z cab request fan old
    r.2 = raw ∧ r.1.integrator = i ∧
    r.1.demand = (if frozen then c.th else if raw < c.tc then c.tc else if c.th < raw then c.th else raw) ∧
    r.1.planned = true ∧ r.1.openLoop = !cab.valid ∧ r.1.defrostFlag = decide frozen ∧
    (pr.wmin ≤ pr.wmax → r.1.level = if wanted < 1000 then wanted else 1000) ∧
    r.1.outlet = (if frozen then 1000 else if s + 50 < r.1.demand then 667 else if r.1.demand < s - 50 then 0 else 333) ∧
    (c.th - c.tc < (c.spanMin : Int) → r.1.spanLow = true ∧ r.1.blend = old.blend) ∧
    ((c.spanMin : Int) ≤ c.th - c.tc → 1 ≤ c.spanMin →
      r.1.spanLow = false ∧ r.1.blend ≤ 1000 ∧
      2 * (c.th - c.tc) * r.1.blend ≤ 2000 * (r.1.demand - c.tc) + (c.th - c.tc) ∧
      2000 * (r.1.demand - c.tc) + (c.th - c.tc) < 2 * (c.th - c.tc) * (r.1.blend + 1))

/-- The stage targets step toward the requested count by at most one: the lowest-numbered bound stage that is off goes on,
the highest-numbered stage that is on goes off, and at the count itself nothing changes (R91). -/
def Obligations.StageTargetsStepByOne : Prop :=
  ∀ (bound : List (Fin 4)) (request : Nat) (targets : Vector Bool 4),
    (bound = allStages.filter fun n => bound.contains n) →
    let on := (allStages.filter fun n => targets.get n).length
    let new := stepStages bound request targets
    (on = request → new = targets) ∧
    (on < request → (∀ n : Fin 4, n ∈ bound → targets.get n = true) → new = targets) ∧
    (∀ n : Fin 4, on < request → n ∈ bound → targets.get n = false →
      (∀ m : Fin 4, m < n → m ∈ bound → targets.get m = true) → new = targets.set n true) ∧
    (∀ n : Fin 4, request < on → targets.get n = true → (∀ m : Fin 4, n < m → targets.get m = false) →
      new = targets.set n false)

/-! ### Load budget (chapter 6) -/

/-- The band and avail by the presented BATTERY_VOLTS, and what a notice of it brings: a room notice where avail rose, the
test for shedding where it changed, nothing further where it did not (R98, R105). Shedding takes the stages from STAGE_4 down
and the blowers of zones 3 to 0 while the expected total is above avail, each to its level or its floor, lists each order, sets
the zone's CAPPED flag and latches LOAD_SHED (R105, R106); the sequencer takes the order as a SET with the shed mark (R129). A
blower of rated current 0 that still carries load is log entry 32, one whose rated current was lowered under it log entry 41,
and that no consumer is taken in WATCH log entry 40. -/
def Obligations.BatteryVoltsSetsTheBudgetAndLoadIsShed : Prop :=
  (∀ (img : Bank) (l : Live),
     let p := presented img l.slots batterySlot
     let band : Band := if p.valid = false then .unknown
       else if (bandHi img : Int) ≤ p.value then .high
       else if (bandMid img : Int) ≤ p.value then .mid
       else if (bandLo img : Int) ≤ p.value then .low
       else .critical
     let percent := match band with
       | .high => 100
       | .mid => 75
       | .low => 50
       | .critical => 25
       | .unknown => 50
     let avail := baseBudget img * percent / 100
     let worked : Live := { l with budget := { l.budget with band := band, avail := avail } }
     notify img batterySlot l =
       if avail = l.budget.avail then worked
       else if l.budget.avail < avail then testShed img (roomNotice img worked)
       else testShed img worked) ∧
  (∀ (img : Bank) (l : Live),
    let counted := fun e : ShedEntry =>
      ((l.budget.consumers.get e.role).commitment : Int) - (loadOf img e.role e.level : Int)
    let excess := (l.budget.committed : Int) - (l.budget.shedList.map counted).sum - (l.budget.avail : Int)
    let m := shedFrom img [19, 18, 17, 16, 15, 14, 13, 12] excess l
    testShed img l = if excess ≤ 0 then l else if m.2 = true then latch kLoadShed m.1.budget.avail m.1 else m.1) ∧
  (∀ (img : Bank) (r : Role) (rest : List Role) (excess : Int) (l : Live),
    let z := zoneOf r
    let load := (l.budget.consumers.get r).commitment
    let rated := blowerRated img z
    let lowest := if z = 0 ∧ l.planner.defrost = true then (profile img z).wmax else (profile img z).wmin
    let floorLoad := (lowest * rated + 999) / 1000
    let state := (l.sequencer.actuators.get r).state
    let passed := l.part.state = .watch ∨ (∃ e ∈ l.budget.shedList, e.role = r) ∨ state = .offline ∨ state = .faulted ∨ state = .absent ∨
      state = .uncertain ∨
      ∃ t, (l.budget.consumers.get r).transit = some t ∧ (l.budget.consumers.get r).accepted < t
    let ordered := fun level : Nat =>
      let listed : Live :=
        { l with budget := { l.budget with shedList := l.budget.shedList ++ [{ role := r, level := level }] } }
      shedOrder img r level (if r.val < 16 then setCapped z listed else listed)
    let goesOn := fun (level : Nat) (left : Int) => ((shedFrom img rest left (ordered level)).1, true)
    shedFrom img [] excess l = (l, false) ∧
    (excess ≤ 0 → shedFrom img (r :: rest) excess l = (l, false)) ∧
    (0 < excess → passed → shedFrom img (r :: rest) excess l = shedFrom img rest excess l) ∧
    (0 < excess → ¬passed → 16 ≤ r.val → shedFrom img (r :: rest) excess l =
      if load = stageCurrent img then goesOn 0 (excess - stageCurrent img) else shedFrom img rest excess l) ∧
    (0 < excess → ¬passed → 12 ≤ r.val → r.val < 16 →
      (load ≤ floorLoad → shedFrom img (r :: rest) excess l = shedFrom img rest excess l) ∧
      (floorLoad < load → excess ≤ (load : Int) - floorLoad → rated ≠ 0 → shedFrom img (r :: rest) excess l =
        (ordered (((load : Int) - excess).toNat * 1000 / rated), true)) ∧
      (floorLoad < load → (load : Int) - floorLoad < excess → shedFrom img (r :: rest) excess l =
        goesOn lowest (excess - ((load : Int) - floorLoad))))) ∧
  (∀ (img : Bank) (r : Role) (level : Nat) (l : Live),
    let u := l.sequencer
    let a := u.actuators.get r
    let hold := fun old : Timer => match a.retryTime with
      | some e => if l.now < e then some e else old
      | none => old
    let others := u.queue.filter fun x => x.role != r
    let placed := fun (b : Actuator) (e : QueueEntry) =>
      let queue := others.filter (fun x => x.urgent) ++ e :: others.filter (fun x => !x.urgent)
      { l with sequencer := { u with
          actuators := u.actuators.set r b, queue := queue, suspended := u.suspended.filter fun m => m.role != r } }
    (∀ it, itemOf l r = some it →
      let items := u.inFlight.map fun i => if i.role = r
        then { i with shedOrder := some (min level (i.shedOrder.getD level)) } else i
      shedOrder img r level l = { l with sequencer := { u with inFlight := items } }) ∧
    (itemOf l r = none →
      (∀ e, queueEntry l r = some e → shedOrder img r level l = offer img (placed a
        { e with level := min level e.level, urgent := true, shed := true, holdOff := hold e.holdOff })) ∧
      (queueEntry l r = none → a.state = .idle → shedOrder img r level l = offer img (placed { a with state := .queued }
        { role := r, kind := .set, level := level, urgent := true, holdOff := hold none, shed := true }))))

/-- A SET of a stage at the budget (R101): an increase is admitted where it fits in avail, and waits whole where it does
not; a reduction is always admitted and counts at the accepted level's load until the node accepts. A MOVE or HOME (R100):
admitted where motion_current fits, waiting where it does not, and admitted without adding load where it is counted
already; counted already is a commitment other than 0, under whatever motion_current it was admitted (log entry 14). -/
def Obligations.StagesAndMotionsAreAdmittedWhole : Prop :=
  (∀ (img : Bank) (r : Role) (b : Budget), 16 ≤ r.val →
     let c := b.consumers.get r
     (c.accepted = 0 → b.committed - c.commitment + stageCurrent img ≤ b.avail →
       let new : Consumer := { c with transit := some 1000, commitment := stageCurrent img }
       askSet img r 1000 b = (.admitted, { b with consumers := b.consumers.set r new })) ∧
     (c.accepted = 0 → b.avail < b.committed - c.commitment + stageCurrent img → askSet img r 1000 b = (.wait, b)) ∧
     (let new : Consumer := { c with transit := some 0, commitment := if c.accepted = 0 then 0 else stageCurrent img }
      askSet img r 0 b = (.admitted, { b with consumers := b.consumers.set r new })) ∧
     (∀ level w : Nat, (askSet img r level b).1 ≠ .capped w ∧ (askSet img r level b).1 ≠ .held)) ∧
  (∀ (img : Bank) (r : Role) (b : Budget),
     let c := b.consumers.get r
     (c.commitment ≠ 0 ∨ c.commitment = motionCurrent img → askMotion img r b = (.admitted, b)) ∧
     (c.commitment = 0 → b.committed + motionCurrent img ≤ b.avail →
       (askMotion img r b).1 = .admitted ∧
       (askMotion img r b).2 = { b with consumers := b.consumers.set r { c with commitment := motionCurrent img } } ∧
       (askMotion img r b).2.committed = b.committed + motionCurrent img) ∧
     (c.commitment = 0 → motionCurrent img ≠ 0 → b.avail < b.committed + motionCurrent img →
       askMotion img r b = (.wait, b)))

/-- A SET of a blower at the budget (R102): a reduction is admitted; an increase is admitted where it fits, capped to the
level that the room affords where that is above the accepted level, and held else. A capped blower brings the committed
load to avail at most; with a rated current of 0 every level is admitted. -/
def Obligations.BlowerSetsAreAdmittedCappedOrHeld : Prop :=
  ∀ (img : Bank) (r : Role) (w : Nat) (b : Budget), 12 ≤ r.val → r.val < 16 →
    let c := b.consumers.get r
    let rated := blowerRated img (zoneOf r)
    let load := fun level : Nat => (level * rated + 999) / 1000
    let rest := b.committed - c.commitment
    let lower := min w ((b.avail - rest) * 1000 / rated)
    let counted := fun level : Nat =>
      let new : Consumer := { c with transit := some level, commitment := max (load c.accepted) (load level) }
      { b with consumers := b.consumers.set r new }
    (w ≤ c.accepted → askSet img r w b = (.admitted, counted w)) ∧
    (c.accepted < w → rest + load w ≤ b.avail →
      askSet img r w b = (.admitted, counted w) ∧ max (load c.accepted) (load w) = load w) ∧
    (c.accepted < w → b.avail < rest + load w → rated ≠ 0 → c.accepted < lower →
      askSet img r w b = (.capped lower, counted lower) ∧ load lower ≤ b.avail - rest ∧
      (rest ≤ b.avail → (counted lower).committed ≤ b.avail)) ∧
    (c.accepted < w → b.avail < rest + load w → rated ≠ 0 → lower ≤ c.accepted → askSet img r w b = (.held, b)) ∧
    (rated = 0 → (askSet img r w b).1 = .admitted)

/-! ### Actuator sequencer (chapter 7) -/

/-- A target arrival first becomes the actuator's target; what follows is the row of R118 for the actuator's state or of
R119 for the kind and phase of its work in flight, and then the queue is offered (R118, R119). An entry that joins the queue
carries a hold-off to a retry time that lies ahead (R122), a removed MOVE or HOME entry releases its commitment (R130), and
in SETTLING an IDLE actuator's work is not placed (R134). -/
def Obligations.TargetArrivalsFollowTheirTables : Prop :=
  ∀ (img : Bank) (r : Role) (t : Target) (l : Live),
    let q := l.sequencer
    let a := q.actuators.get r
    let near := fun p w : Nat => max p w - min p w ≤ (binding img r).deadband
    let kind : WorkKind := if r.val < 12 then .move else .set
    let hold : Timer := match a.retryTime with
      | some e => if l.now < e then some e else none
      | none => none
    let entry := fun k : WorkKind =>
      ({ role := r, kind := k, level := t.level, urgent := t.urgent, holdOff := hold, shed := false } : QueueEntry)
    let others := q.queue.filter fun x => x.role != r
    let join := fun e : QueueEntry =>
      if e.urgent then others.filter (fun x => x.urgent) ++ e :: others.filter (fun x => !x.urgent) else others ++ [e]
    let becomes := fun (b : Actuator) (queue : List QueueEntry) =>
      { l with sequencer := { q with actuators := q.actuators.set r b, queue := queue } }
    let placed := fun (b : Actuator) (e : QueueEntry) =>
      { l with sequencer := { q with
          actuators := q.actuators.set r b, queue := join e, suspended := q.suspended.filter fun m => m.role != r } }
    let waits := fun x : Target => becomes { a with pendingTarget := some x } q.queue
    let replaced := fun e : QueueEntry =>
      if t.urgent ∧ e.urgent = false then placed a { e with level := t.level, urgent := true }
      else becomes a (q.queue.map fun x => if x.role = r then { x with level := t.level } else x)
    targetArrival img r t l = offer img (arrivalBody img r t (becomes { a with target := some t } q.queue)) ∧
    (itemOf l r = none →
      (a.state = .idle → arrivalBody img r t l = if near a.position t.level ∨ l.part.state = .settling then l
        else placed { a with state := .queued } (entry kind)) ∧
      (a.state = .uncertain →
        (queueEntry l r = none → arrivalBody img r t l = if r.val < 12
          then placed { a with pendingTarget := some t } (entry .home) else placed a (entry .set)) ∧
        ∀ e, queueEntry l r = some e → arrivalBody img r t l = if r.val < 12
          then (if t.urgent ∧ e.urgent = false then placed { a with pendingTarget := some t } { e with urgent := true }
            else waits t)
          else replaced e) ∧
      (a.state = .queued → ∀ e, queueEntry l r = some e →
        (e.shed = true → arrivalBody img r t l = waits t) ∧
        (e.shed = false → near a.position t.level →
          let out : Live := becomes { a with state := .idle } others
          let c := l.budget.consumers.get r
          let consumers := l.budget.consumers.set r { c with commitment := 0 }
          let freed : Live := { out with budget := { l.budget with consumers := consumers } }
          arrivalBody img r t l = if e.kind = .set then out else if 0 < c.commitment then roomNotice img freed else freed) ∧
        (e.shed = false → ¬near a.position t.level → arrivalBody img r t l = replaced e)) ∧
      (a.state = .suspended → ∀ m, q.suspended = some m →
        let left := fun (b : Actuator) (queue : List QueueEntry) =>
          { l with sequencer := { q with actuators := q.actuators.set r b, queue := queue, suspended := none } }
        arrivalBody img r t l = if near m.level t.level then l
          else if near a.position t.level ∨ l.part.state = .settling then left { a with state := .idle } q.queue
          else left { a with state := .queued } (join (entry kind))) ∧
      (a.state = .offline ∨ a.state = .faulted ∨ a.state = .absent → arrivalBody img r t l = l)) ∧
    (∀ it, itemOf l r = some it →
      let merged : Target := { level := t.level, urgent := t.urgent || a.pendingTarget.any (·.urgent) }
      let items := fun f : Item → Item => q.inFlight.map fun i => if i.role = r then f i else i
      let moved := fun (x : Option Target) (f : Item → Item) =>
        { l with sequencer := { q with actuators := q.actuators.set r { a with pendingTarget := x }, inFlight := items f } }
      (it.kind = .home ∨ it.kind = .set → arrivalBody img r t l = waits merged) ∧
      (it.kind = .move →
        (it.phase = .issuing → arrivalBody img r t l = waits t) ∧
        (it.phase = .running →
          (near it.level t.level → arrivalBody img r t l =
            moved none fun i => { i with level := t.level, asked := t.level, urgent := i.urgent || t.urgent }) ∧
          (¬near it.level t.level → t.urgent = false → arrivalBody img r t l = waits t) ∧
          (¬near it.level t.level → t.urgent = true →
            let halts := moved (some t) fun i => { i with phase := .halting .supersede, poll := none, deadline := none }
            let k : Link := { l.link with requests := l.link.requests.filter fun x => !x.owner.isItemOf r }
            arrivalBody img r t l = placeRequest (.item r it.id) ((nodeAddress img l r).getD 0)
              (.halt (binding img r).channel) .urgent { halts with link := k })) ∧
        (it.phase = .halting .suspend → arrivalBody img r t l = if t.urgent = true
          then moved (some t) (fun i => { i with phase := .halting .supersede }) else waits t) ∧
        (it.phase = .halting .supersede ∨ it.phase = .halting .deadline → arrivalBody img r t l = waits merged)))

/-- The offer of the queue (R120): the URGENT entries in order, the resume, the NORMAL entries, each put to the budget, an
admitted or capped one issued (R121), a waiting URGENT one leading to one try of suspension; a work of an EXCLUDED node is not
sent and its entry returns with its hold-off (log entry 13), one of a node that no entry holds is passed over (log entry 16).
Suspension halts the unguarded NORMAL move of the latest issue time (R123; of two issued together the first, and a place that
a halted move is on its way to is taken: log entry 11). The resume goes out as a guarded NORMAL MOVE (R125). The timers: an
entry's hold-off ends and the queue is offered (R120); a resume guard ends (R125); a poll timer asks for a QUERY of class poll
(R126); a deadline turns a running item to HALTING and asks for a HALT of class poll, the waiting poll withdrawn (R127). The
CAPPED flag is set with BLOWER_CAPPED where it was clear (R103). The clock at an expiry: log entry 2. -/
def Obligations.QueueIsOfferedAndTimersAct : Prop :=
  (∀ (s : State) (r : Role) (e : Nat), s.held = false →
     let img := s.active
     let l : Live := { s.live with now := max s.live.now e }
     let q := s.live.sequencer
     let address := (nodeAddress img s.live r).getD 0
     let channel := (binding img r).channel
     ((queueEntry s.live r).bind (·.holdOff) = some e →
       let queue := q.queue.map fun x => if x.role = r then { x with holdOff := none } else x
       let m : Live := { l with sequencer := { q with queue := queue } }
       exec (.holdOffExpiry r) s = .next { s with live := settleCheck (offer img m) }) ∧
     ((q.actuators.get r).guardTime = some e →
       let actuators := q.actuators.set r { q.actuators.get r with guardTime := none }
       exec (.resumeGuardExpiry r) s = .next { s with live := { l with sequencer := { q with actuators := actuators } } }) ∧
     (∀ it, itemOf s.live r = some it →
       (it.poll = some e →
         let items := q.inFlight.map fun i => if i.role = r then { i with poll := none } else i
         let m : Live := { l with sequencer := { q with inFlight := items } }
         exec (.pollTimerExpiry r) s =
           .next { s with live := placeRequest (.item r it.id) address (.query channel) .poll m }) ∧
       (it.deadline = some e →
         let items := q.inFlight.map fun i =>
           if i.role = r then { i with phase := .halting .deadline, poll := none, deadline := none } else i
         let waiting := l.link.requests.filter fun x => !x.owner.isItemOf r
         let k : Link := { l.link with requests := waiting }
         let m : Live := { l with sequencer := { q with inFlight := items }, link := k }
         exec (.moveDeadlineExpiry r) s =
           .next { s with live := placeRequest (.item r it.id) address (.halt channel) .poll m }))) ∧
  (∀ (img : Bank) (e : QueueEntry) (l : Live),
    let u := l.sequencer
    let r := e.role
    let a := u.actuators.get r
    let others := u.queue.filter fun x => x.role != r
    let items := u.inFlight.filter fun i => i.role != r
    let apart := u.suspended.filter fun m => m.role != r
    let soon := l.now + pollInterval img
    let channel := (binding img r).channel
    let issued := fun (level address : Nat) (m : Live) =>
      let item : Item :=
        { role := r, id := u.nextId, kind := e.kind, level := level, asked := e.level, urgent := e.urgent
          phase := .issuing, shed := e.shed, shedOrder := none, issued := l.now, deadline := none, poll := none }
      let state : ActuatorState := match e.kind with
        | .move => .moving
        | .home => .homing
        | .set => if a.state = .idle ∨ a.state = .queued then .moving else a.state
      let sense := if r.val < 12 ∧ (binding img r).reverse then 1000 - level else level
      let command : LinkCommand := match e.kind with
        | .move => .move channel sense
        | .home => .home channel
        | .set => .set channel level
      placeRequest (.item r u.nextId) address command (if e.kind ≠ .set ∧ e.urgent then .urgent else .normal)
        { m with sequencer := { u with
            actuators := u.actuators.set r { a with state := state }, queue := others, inFlight := items ++ [item]
            suspended := apart, nextId := u.nextId + 1 } }
    let asked := if e.kind = .set then askSet img r e.level l.budget else askMotion img r l.budget
    let told : Live := { l with budget := asked.2 }
    let free : Live :=
      if e.kind = .set ∧ 12 ≤ r.val ∧ r.val < 16 ∧ e.shed = false
      then { l with budget := { asked.2 with capped := asked.2.capped.set (zoneOf r) false } } else told
    let kept : QueueEntry := { e with holdOff := some soon }
    let queue := if e.urgent then kept :: others
      else others.filter (fun x => x.urgent) ++ kept :: others.filter (fun x => !x.urgent)
    (nodeAddress img l r = none → putEntry img e l = (l, false)) ∧
    (∀ address, nodeAddress img l r = some address →
      (nodeStateOf img l r = some .excluded → putEntry img e l = ({ l with sequencer := { u with
        actuators := u.actuators.set r { a with retryTime := some soon }, queue := queue, inFlight := items
        suspended := apart } }, false)) ∧
      (nodeStateOf img l r ≠ some .excluded →
        (asked.1 = .admitted → putEntry img e l = (issued e.level address free, false)) ∧
        (∀ w, asked.1 = .capped w → putEntry img e l = (issued w address (setCapped (zoneOf r) told), false)) ∧
        (asked.1 = .held → putEntry img e l = (setCapped (zoneOf r) told, true)) ∧
        (asked.1 = .wait → putEntry img e l = (told, true))))) ∧
  (∀ (z : Fin 4) (l : Live),
    let capped : Live := { l with budget := { l.budget with capped := l.budget.capped.set z true } }
    setCapped z l = if l.budget.capped.get z = true then l else latch kBlowerCapped z.val capped) ∧
  (∀ (img : Bank) (skip : QueueEntry → Bool) (e : QueueEntry) (rest : List QueueEntry) (l : Live),
    let one := putEntry img e l
    let more := putEntries img skip rest one.1
    putEntries img skip [] l = (l, false) ∧
    putEntries img skip (e :: rest) l =
      if e.holdOff ≠ none ∨ skip e = true then putEntries img skip rest l else (more.1, one.2 || more.2)) ∧
  (∀ (img : Bank) (l : Live),
    let first := putEntries img (fun _ => false) (l.sequencer.queue.filter fun e => e.urgent) l
    let resumed := if first.1.part.state = .run then offerResume img first.1 else (first.1, false)
    let normal := resumed.1.sequencer.queue.filter fun e => !e.urgent
    (l.part.state ≠ .run → l.part.state ≠ .settling → offer img l = l) ∧
    (l.part.state = .run ∨ l.part.state = .settling → offer img l =
      if first.2 = true then trySuspend img first.1
      else (putEntries img (fun e => resumed.2 && e.kind != .set) normal resumed.1).1) ∧
    roomNotice img l = offer img { l with sequencer := { l.sequencer with armed := true } }) ∧
  (∀ (img : Bank) (l : Live),
    let u := l.sequencer
    let tried : Live := { l with sequencer := { u with armed := false } }
    let taken := u.suspended ≠ none ∨ ∃ i ∈ u.inFlight, i.phase = .halting .suspend
    let free := fun i : Item => match (u.actuators.get i.role).guardTime with
      | none => true
      | some t => decide (t ≤ l.now)
    let candidates := u.inFlight.filter fun i => i.kind == .move && !i.urgent && i.phase == .running && free i
    (u.armed = false → trySuspend img l = l) ∧
    (u.armed = true → taken ∨ candidates = [] → trySuspend img l = tried) ∧
    (∀ earlier i later, u.armed = true → ¬taken → candidates = earlier ++ i :: later →
      (∀ j ∈ earlier, j.issued < i.issued) → (∀ j ∈ later, j.issued ≤ i.issued) →
      let halting := u.inFlight.map fun x =>
        if x.role = i.role then { x with phase := .halting .suspend, poll := none, deadline := none } else x
      let k : Link := { l.link with requests := l.link.requests.filter fun x => !x.owner.isItemOf i.role }
      trySuspend img l = placeRequest (.item i.role i.id) ((nodeAddress img l i.role).getD 0)
        (.halt (binding img i.role).channel) .urgent
        { tried with sequencer := { u with armed := false, inFlight := halting }, link := k })) ∧
  (∀ (img : Bank) (l : Live),
    let u := l.sequencer
    (u.suspended = none → offerResume img l = (l, false)) ∧
    (∀ m, u.suspended = some m →
      let r := m.role
      let a := u.actuators.get r
      let asked := askMotion img r l.budget
      let item : Item :=
        { role := r, id := u.nextId, kind := .move, level := m.level, asked := m.level, urgent := false
          phase := .issuing, shed := false, shedOrder := none, issued := l.now, deadline := none, poll := none }
      let sense := if r.val < 12 ∧ (binding img r).reverse then 1000 - m.level else m.level
      let told : Live := { l with budget := asked.2 }
      let items := u.inFlight.filter fun i => i.role != r
      let goes : Live := { told with sequencer := { u with
        actuators := u.actuators.set r { a with guardTime := some (l.now + 500), state := .moving }
        queue := u.queue.filter fun x => x.role != r
        inFlight := items ++ [item], suspended := none, nextId := u.nextId + 1 } }
      (nodeAddress img l r = none → offerResume img l = (l, true)) ∧
      (∀ address, nodeAddress img l r = some address → offerResume img l =
        if asked.1 = .admitted
        then (placeRequest (.item r u.nextId) address (.move (binding img r).channel sense) .normal goes, false)
        else (told, true))))

/-- The node accepts a MOVE or HOME: its item runs from that moment with its deadline and its poll timer, and a target
that arrived for a MOVE meanwhile is handled as for a running one; where none did, nothing else of the sequencer changes,
and the budget does not (R121, R127). The order of counting and delivery: log entry 10. -/
def Obligations.AcceptedMotionsRun : Prop :=
  ∀ (s : State) (q : LinkRequest) (r : Role) (reply : LinkReply) (it : Item) (c : Instr), s.held = false →
    s.live.link.onLink = some q → s.live.link.sent = true → q.owner = .item r it.id →
    (c = .moveReply reply ∧ isMove q = true) ∨ (c = .homeReply reply ∧ isHome q = true) →
    replyEnding q.command reply = .accept → itemOf s.live r = some it →
    let img := s.active
    let a := s.live.sequencer.actuators.get r
    let stroke := (binding img r).travel * 100
    let way := max it.level a.position - min it.level a.position
    let time := if it.kind = .home then stroke * 3 / 2 + 1000 else (stroke * way + 999) / 1000 + 1000
    let runs := s.live.sequencer.inFlight.map fun i =>
      if i.role = r then
        { i with phase := .running, issued := s.live.now, deadline := some (s.live.now + time),
                 poll := some (s.live.now + pollInterval img) }
      else i
    let counted := countTransaction img q .accept s.live
    let running : Live := { counted with sequencer := { s.live.sequencer with inFlight := runs } }
    (it.kind ≠ .move ∨ a.pendingTarget = none →
      ∃ t, exec c s = .next t ∧ t.live.sequencer = { s.live.sequencer with inFlight := runs } ∧
        t.live.budget = s.live.budget ∧ t.live.air = s.live.air ∧ t.live.planner = s.live.planner ∧
        t.live.slots = s.live.slots ∧ t.live.now = s.live.now ∧ t.active = s.active) ∧
    (∀ target, a.pendingTarget = some target → it.kind = .move →
      let m : Live := arrivalBody img r target (setPending r none running)
      exec c s = .next { s with live := settleCheck (freeLink m) })

/-- The node accepts a SET: the item ends, the position is its level, the actuator rests, the accepted level is the level
that was in transit with its load counted; a kept shed order is placed and the queue offered, then the room notice of
released load offers it, and then the pending target is served where no work was placed for the actuator (R104, R107,
R121, R126, R129). A pending target is served as an arrival in RUN and as an off SET alone in SETTLING, and a kept shed order
takes its place at the end of its class (R126, R129, R134). The order of the notices inside it is log entry 9, of counting and
delivery log entry 10, a SET whose level in transit R108 has removed log entry 13. -/
def Obligations.AcceptedSetsSettle : Prop :=
  (∀ (s : State) (q : LinkRequest) (r : Role) (reply : LinkReply) (it : Item), s.held = false →
     s.live.link.onLink = some q → s.live.link.sent = true → q.owner = .item r it.id → isSet q = true →
     replyEnding q.command reply = .accept → itemOf s.live r = some it →
     let img := s.active
     let l := countTransaction img q .accept s.live
     let a := s.live.sequencer.actuators.get r
     let old := s.live.budget.consumers.get r
     let level := old.transit.getD old.accepted
     let new : Consumer := { accepted := level, transit := none, commitment := loadOf img r level }
     let rest := if a.state = .uncertain ∨ a.state = .queued ∨ a.state = .moving then .idle else a.state
     let ended : Live :=
       { l with
         sequencer := { s.live.sequencer with
           inFlight := s.live.sequencer.inFlight.filter fun i => i.role != r
           actuators := s.live.sequencer.actuators.set r { a with position := it.level, state := rest } }
         budget := { s.live.budget with
           consumers := s.live.budget.consumers.set r new
           shedList := if it.shed then s.live.budget.shedList.filter fun e => e.role != r else s.live.budget.shedList } }
     let ordered := if it.shedOrder.isSome then offer img (placeKeptOrder it ended) else ended
     let noticed := if new.commitment < old.commitment then roomNotice img ordered else ordered
     exec (.setReply reply) s = .next { s with live := settleCheck (freeLink (serve img r noticed)) }) ∧
  (∀ (img : Bank) (r : Role) (l : Live),
    let u := l.sequencer
    let a := u.actuators.get r
    let works := queueEntry l r ≠ none ∨ itemOf l r ≠ none ∨ ∃ m, u.suspended = some m ∧ m.role = r
    let becomes := fun b : Actuator => { l with sequencer := { u with actuators := u.actuators.set r b } }
    let hold : Timer := match a.retryTime with
      | some e => if l.now < e then some e else none
      | none => none
    let off : QueueEntry := { role := r, kind := .set, level := 0, urgent := true, holdOff := hold, shed := false }
    let queue := u.queue.filter (fun x => x.urgent) ++ off :: u.queue.filter (fun x => !x.urgent)
    let rest : ActuatorState := if a.state = .idle then .queued else a.state
    let placed : Live :=
      { l with sequencer := { u with
          actuators := u.actuators.set r { a with pendingTarget := none, state := rest }, queue := queue } }
    (a.pendingTarget = none ∨ works → serve img r l = l) ∧
    (∀ t, a.pendingTarget = some t → ¬works → serve img r l =
      let free : Live := becomes { a with pendingTarget := none }
      if l.part.state = .run then (if a.state = .idle then targetArrival img r t free else free)
      else if 12 ≤ r.val ∧ t = { level := 0, urgent := true } then offer img placed
      else free)) ∧
  (∀ (it : Item) (l : Live),
    let u := l.sequencer
    let r := it.role
    let a := u.actuators.get r
    let hold : Timer := match a.retryTime with
      | some e => if l.now < e then some e else none
      | none => none
    (it.shedOrder = none → placeKeptOrder it l = l) ∧
    (∀ level, it.shedOrder = some level → itemOf l r = none →
      let shed : QueueEntry := { role := r, kind := .set, level := min level (l.budget.consumers.get r).accepted,
                                 urgent := true, holdOff := hold, shed := true }
      let others := u.queue.filter fun x => x.role != r
      let queue := others.filter (fun x => x.urgent) ++ shed :: others.filter (fun x => !x.urgent)
      let apart := u.suspended.filter fun m => m.role != r
      placeKeptOrder it l = { l with sequencer := { u with
        actuators := u.actuators.set r { a with state := .queued }, queue := queue, suspended := apart } }))

/-- The node answers a HALT or a poll with its position, taken in the role's sense: a supersede ends the move there and
serves the pending target; a deadline counts an overrun, the third a fault; a suspend keeps the move unless it stands at
its target; a HALT that is not answered with a position is requested again with its class; a poll records the position,
and SETTLED or FAULT ends a running item; a poll that fails starts the poll timer again (R113, R124, R126, R127). A motion
ends at a position, FAULTED, suspended, or as a HOME that is placed anew, and what it held is released (R124, R126, R128, R130,
R134). Release and room notice before the pending target is served is log entry 9, the order of counting and delivery log entry
10, the suspended place already taken log entry 11, the kept target of a faulted motion log entry 36. -/
def Obligations.HaltAndPollRepliesEndOrRecord : Prop :=
  (∀ (s : State) (q : LinkRequest) (r : Role) (reply : LinkReply) (it : Item) (p : Nat), s.held = false →
     s.live.link.onLink = some q → s.live.link.sent = true → q.owner = .item r it.id → itemOf s.live r = some it →
     let img := s.active
     let a := s.live.sequencer.actuators.get r
     let position := if r.val < 12 ∧ (binding img r).reverse then 1000 - p else p
     let l := countTransaction img q (replyEnding q.command reply) s.live
     let placed := fun f : Actuator → Actuator =>
       { l with sequencer := { l.sequencer with actuators := l.sequencer.actuators.set r (f a) } }
     let done := fun m : Live => Host.Outcome.next { s with live := settleCheck (freeLink m) }
     (isHalt q = true → replyEnding q.command reply = .position p →
       (it.phase = .halting .supersede →
         let ended : Live :=
           { l with
             sequencer := { l.sequencer with
               inFlight := l.sequencer.inFlight.filter fun i => i.role != r
               actuators := l.sequencer.actuators.set r { a with state := .idle, position := position } }
             link := { l.link with requests := l.link.requests.filter fun x => !x.owner.isItemOf r } }
         exec (.haltReply reply) s = done (serve img r (releaseMotion img r ended))) ∧
       (it.phase = .halting .deadline →
         let n := if a.overruns < 3 then a.overruns + 1 else a.overruns
         let late := latch kMoveOverrun r.val (placed fun x => { x with position := position, overruns := n })
         exec (.haltReply reply) s = done (if n = 3 then motionFaulted img .stall it late
           else if it.kind = .home then homeAgain img it late else motionEnded img it position false late)) ∧
       (it.phase = .halting .suspend →
         let there := within (binding img r).deadband position it.level
         exec (.haltReply reply) s = done (if there = true ∨ s.live.sequencer.suspended ≠ none
           then motionEnded img it position there l else motionSuspended img it position l))) ∧
     (isHalt q = true → (∀ x, replyEnding q.command reply ≠ .position x) → itemOf l r = some it →
       ∀ why, it.phase = .halting why →
       exec (.haltReply reply) s = done (placeRequest (.item r it.id) ((nodeAddress img l r).getD 0)
         (.halt (binding img r).channel) (if why = .deadline then .poll else .urgent) l)) ∧
     (isPoll q = true → ∀ m, replyEnding q.command reply = .motion p m →
       let items := l.sequencer.inFlight.map fun i =>
         if i.role = r ∧ i.phase = .running then { i with poll := some (l.now + pollInterval img) } else i
       let noted := placed fun x => { x with position := position }
       exec (.queryReply reply) s = done (if m = 2 then motionFaulted img .nodeFault it noted
         else if m = 1 ∧ it.phase = .running then motionEnded img it position true noted
         else { noted with sequencer := { noted.sequencer with inFlight := items } })) ∧
     (isPoll q = true → (∀ x m, replyEnding q.command reply ≠ .motion x m) → itemOf l r = some it →
       let items := l.sequencer.inFlight.map fun i =>
         if i.role = r ∧ i.phase = .running then { i with poll := some (l.now + pollInterval img) } else i
       exec (.queryReply reply) s = done { l with sequencer := { l.sequencer with inFlight := items } })) ∧
  (∀ (img : Bank) (it : Item) (position : Nat) (l : Live),
    let u := l.sequencer
    let r := it.role
    let a := u.actuators.get r
    let items := u.inFlight.filter fun i => i.role != r
    let others := u.queue.filter fun x => x.role != r
    let apart := u.suspended.filter fun m => m.role != r
    let k : Link := { l.link with requests := l.link.requests.filter fun x => !x.owner.isItemOf r }
    let ended := fun b : Actuator =>
      { l with sequencer := { u with actuators := u.actuators.set r b, inFlight := items }, link := k }
    let released := fun m : Live =>
      let c := m.budget.consumers.get r
      let free : Live :=
        { m with budget := { m.budget with consumers := m.budget.consumers.set r { c with commitment := 0 } } }
      if 0 < c.commitment then roomNotice img free else free
    let hold : Timer := match a.retryTime with
      | some e => if l.now < e then some e else none
      | none => none
    let urgent := a.pendingTarget.any (·.urgent)
    let home : QueueEntry := { role := r, kind := .home, level := 0, urgent := urgent, holdOff := hold, shed := false }
    let queue := if urgent then others.filter (fun x => x.urgent) ++ home :: others.filter (fun x => !x.urgent)
      else others ++ [home]
    let again : Live := { l with
      sequencer := { u with
        actuators := u.actuators.set r { a with state := .uncertain }, inFlight := items, queue := queue
        suspended := apart }
      link := k }
    let halted : Live := { l with sequencer := { u with
      actuators := u.actuators.set r { a with state := .suspended, position := position, pendingTarget := none }
      inFlight := items, queue := others
      suspended := some { role := r, level := it.level, position := position } } }
    let m : Live := match a.pendingTarget with
      | none => halted
      | some t => arrivalBody img r t halted
    let c := m.budget.consumers.get r
    let free : Live :=
      { m with budget := { m.budget with consumers := m.budget.consumers.set r { c with commitment := 0 } } }
    releaseMotion img r l = released l ∧
    (∀ settled : Bool, motionEnded img it position settled l = serve img r (released (ended
      { a with state := .idle, position := position, overruns := if settled then 0 else a.overruns }))) ∧
    (∀ why : FaultReason,
      let m := ended { a with state := .faulted, fault := some why, pendingTarget := none }
      motionFaulted img why it l = released (if a.state = .faulted then m else latch kActuatorFault r.val m)) ∧
    homeAgain img it l = (if l.part.state = .run then offer img (released again)
      else released (ended { a with state := .uncertain, pendingTarget := none })) ∧
    motionSuspended img it position l = if 0 < c.commitment then roomNotice img free else offer img free)

/-- Work that a node refuses or that fails (R122). BUSY and a failure: a MOVE or HOME returns to the head of its class with a
hold-off of poll_interval, its commitment kept, and the pending target of a MOVE is taken as an arrival at its entry; in
SETTLING it is not placed and its load is released (R130, R134). A SET's level in transit is removed and its entry returns;
one with the shed mark does not, and the budget tests for shedding again (R107, R129). In SETTLING an off SET returns, unless
the off target of the entry to SETTLING is pending, which is then placed in its stead; another SET is not placed (R134). RANGE and FAULT: the item ends, its
load is released and the actuator is FAULTED with the reason, ACTUATOR_FAULT latched at the entry to the state. The order of
release and service: log entry 9; of counting and delivery: log entry 10; the level of a returned SET and its pending target:
log entry 12; an off SET of SETTLING: log entry 13; a kept shed order and a faulted motion's kept target: log entry 36; the load
of a SET that an activation overtook: log entry 44. -/
def Obligations.RefusedAndFailedWorkReturnsOrFaults : Prop :=
  ∀ (s : State) (q : LinkRequest) (r : Role) (reply : LinkReply) (it : Item) (c : Instr), s.held = false →
    s.live.link.onLink = some q → s.live.link.sent = true → q.owner = .item r it.id →
    let img := s.active
    let ending := replyEnding q.command reply
    let l := countTransaction img q ending s.live
    itemOf l r = some it →
    let u := l.sequencer
    let a := u.actuators.get r
    let used := l.budget.consumers.get r
    let soon := l.now + pollInterval img
    let others := u.queue.filter fun x => x.role != r
    let items := u.inFlight.filter fun x => x.role != r
    let apart := u.suspended.filter fun m => m.role != r
    let ended := fun b : Actuator => { l with sequencer := { u with actuators := u.actuators.set r b, inFlight := items } }
    let charged := fun (m : Live) (x : Consumer) =>
      { m with budget := { m.budget with consumers := m.budget.consumers.set r x } }
    let entry : QueueEntry :=
      { role := r, kind := it.kind, level := it.asked, urgent := it.urgent, holdOff := some soon, shed := false }
    let queue := if it.urgent then entry :: others
      else others.filter (fun x => x.urgent) ++ entry :: others.filter (fun x => !x.urgent)
    let back := fun b : Actuator => { l with sequencer := { u with
      actuators := u.actuators.set r b, inFlight := items, queue := queue, suspended := apart } }
    let heard := fun m : Live => match a.pendingTarget with
      | none => m
      | some t => arrivalBody img r t (setPending r none m)
    let stale := { used with transit := none, commitment := loadOf img r used.accepted }
    let released := fun (x : Consumer) (m : Live) => if x.commitment < used.commitment then roomNotice img m else m
    let rested : Actuator := { a with retryTime := some soon, state := if a.state = .moving then .idle else a.state }
    let queued : Actuator := { a with retryTime := some soon, state := if a.state = .moving then .queued else a.state }
    let faulted := fun why : FaultReason => { a with state := .faulted, fault := some why }
    let noted := fun m : Live => if a.state = .faulted then m else latch kActuatorFault r.val m
    let done := fun m : Live => Host.Outcome.next { s with live := settleCheck (freeLink m) }
    ((c = .moveReply reply ∧ isMove q = true ∧ it.kind = .move) ∨ (c = .homeReply reply ∧ isHome q = true ∧ it.kind = .home) →
      (ending = .busy ∨ ending = .failure →
        (l.part.state = .run → exec c s = done (offer img (if it.kind = .home
          then back { a with retryTime := some soon, state := .uncertain } else heard (back queued)))) ∧
        (l.part.state ≠ .run →
          let state : ActuatorState := if it.kind = .home then .uncertain else .idle
          let none' := { used with commitment := 0 }
          exec c s = done (released none' (charged
            (ended { a with retryTime := some soon, state := state, pendingTarget := none }) none')))) ∧
      (∀ why : FaultReason, (ending = .range ∧ why = .refused) ∨ (ending = .fault ∧ why = .nodeFault) →
        let k : Link := { l.link with requests := l.link.requests.filter fun x => !x.owner.isItemOf r }
        let none' := { used with commitment := 0 }
        let m : Live := { ended { faulted why with pendingTarget := none } with link := k }
        exec c s = done (released none' (charged (noted m) none')))) ∧
    (c = .setReply reply ∧ isSet q = true ∧ it.kind = .set →
      (ending = .busy ∨ ending = .failure →
        (it.shed = true →
          let m := charged (ended rested) stale
          let dropped : Live := { m with budget := { m.budget with
            shedList := m.budget.shedList.filter fun e => e.role != r } }
          exec c s = done (serve img r (testShed img (released stale dropped)))) ∧
        (it.shed = false → it.shedOrder ≠ none → exec c s = done (serve img r (released stale (offer img
          (placeKeptOrder it (charged (ended rested) stale)))))) ∧
        (it.shed = false → it.shedOrder = none →
          (l.part.state = .run → exec c s = done (offer img (released stale (heard (charged (back queued) stale))))) ∧
          (l.part.state ≠ .run → it.level = 0 → a.pendingTarget ≠ some { level := 0, urgent := true } → exec c s =
            done (offer img (released stale (charged (back { queued with pendingTarget := none }) stale)))) ∧
          (l.part.state ≠ .run → it.level ≠ 0 ∨ a.pendingTarget = some { level := 0, urgent := true } →
            exec c s = done (serve img r (released stale (charged (ended rested) stale)))))) ∧
      (∀ why : FaultReason, (ending = .range ∧ why = .refused) ∨ (ending = .fault ∧ why = .nodeFault) →
        let m := charged (noted (ended (faulted why))) stale
        let dropped : Live := { m with budget := { m.budget with
          shedList := m.budget.shedList.filter fun e => e.role != r } }
        let tested := if l.budget.shedList.any fun e => e.role == r then testShed img dropped else m
        exec c s = done (serve img r (released stale tested))))

/-! ### Cab link (chapter 8) -/

/-- The arbiter: while the link is RUNNING and free it takes, from a list that is not empty, the request of the first
class in the order urgent, window, poll, normal, probe, rollcall, within it the earliest, then the lowest address, then
the first placed; else it takes nothing. A request that is placed joins the list's end, and the arbiter looks at once
(R151). What "at the same moment" and "at once" are: log entry 10. -/
def Obligations.ArbiterTakesTheFirstByClassAndTime : Prop :=
  (∀ a b : LinkRequest, a.before b = true ↔
    a.cls.order < b.cls.order ∨ (a.cls.order = b.cls.order ∧
      (a.joined < b.joined ∨ (a.joined = b.joined ∧ a.address < b.address)))) ∧
  ([.urgent, .window, .poll, .normal, .probe, .rollcall].map LinkClass.order = [0, 1, 2, 3, 4, 5]) ∧
  (∀ (list : List LinkRequest) (r : LinkRequest), chooseRequest list = some r ↔
    ∃ earlier later, list = earlier ++ r :: later ∧ (∀ q ∈ earlier, r.before q = true) ∧
      ∀ q ∈ later, q.before r = false) ∧
  (∀ (l : Live) (r : LinkRequest), l.link.state = .running → l.link.onLink = none →
    chooseRequest l.link.requests = some r →
    let k : Link :=
      { l.link with onLink := some r, requests := l.link.requests.erase r, sent := false, replyWindow := none }
    arbitrate l = { l with link := k }) ∧
  (∀ l : Live, l.link.state ≠ .running ∨ l.link.onLink ≠ none ∨ l.link.requests = [] → arbitrate l = l) ∧
  (∀ (owner : LinkOwner) (address : Nat) (command : LinkCommand) (cls : LinkClass) (l : Live),
    let r : LinkRequest := { owner := owner, address := address, command := command, cls := cls, joined := l.now }
    placeRequest owner address command cls l =
      arbitrate { l with link := { l.link with requests := l.link.requests ++ [r] } })

/-- A request on the wire is address, command code, length, payload and check; the check makes the sum of all of them a
multiple of 256, and a request of at most 16 data bytes is at most 23 bytes long (R139, R141). A node's reply (R140,
R141): a wrong length field or check is a failure; BIND needs ACCEPT; MOVE, HOME, SET and WRITE take ACCEPT or a refusal
with no payload; HALT and QUERY take a position up to 1000; READ takes its count. A motion state above 2 is a failure:
log entry 15. -/
def Obligations.LinkFramesAreSummedAndJudged : Prop :=
  (∀ r : LinkRequest,
     (∃ check, r.wire =
       byte r.address :: byte r.command.code :: byte r.command.payload.length :: (r.command.payload ++ [check])) ∧
     sumOf r.wire % 256 = 0 ∧
     ((∀ wide register data, r.command = .write wide register data → data.length ≤ 16) → r.wire.length ≤ 23)) ∧
  (∀ (c : LinkCommand) (r : LinkReply),
     let status := r.status.toNat
     let n := r.length.toNat
     let position := 256 * (byteAt r.payload 0).toNat + (byteAt r.payload 1).toNat
     let sound := r.payload.length = n ∧ (status + n + sumOf r.payload + r.check.toNat) % 256 = 0
     let refusal : Ending := if n ≠ 0 then .failure else if status = 1 then .busy else if status = 2 then .range
       else if status = 3 then .fault else .failure
     (¬sound → replyEnding c r = .failure) ∧
     (sound →
       (∀ serial address, c = .bind serial address →
         replyEnding c r = if status = 0 ∧ n = 0 then .accept else .failure) ∧
       ((∃ ch p, c = .move ch p) ∨ (∃ ch, c = .home ch) ∨ (∃ ch v, c = .set ch v) ∨ (∃ w a d, c = .write w a d) →
         replyEnding c r = if status = 0 ∧ n = 0 then .accept else refusal) ∧
       (∀ ch, c = .halt ch → replyEnding c r =
         if status ≠ 0 then refusal else if n = 2 ∧ position ≤ 1000 then .position position else .failure) ∧
       (∀ ch, c = .query ch → replyEnding c r =
         if status ≠ 0 then refusal
         else if n = 3 ∧ position ≤ 1000 ∧ (byteAt r.payload 2).toNat ≤ 2 then
           .motion position (byteAt r.payload 2).toNat
         else .failure) ∧
       (∀ wide register count, c = .read wide register count → replyEnding c r =
         if status ≠ 0 then refusal else if n = count then .data r.payload else .failure)))

/-- The check byte's end starts the reply window of 8 ms; the window's end without a start bit fails the transaction; a
success clears the run of a BOUND or SPARE node, a failure counts, and the third in a row makes it LOST: NODE_LOST is
latched with its address, the loss of a BOUND node is reported to the sequencer, and a waiting window access of the node
ends NO_REPLY. Nothing is counted for a LOST or EXCLUDED node, and the entries at other addresses stand (R140, R147). Any
transaction ends so: counted against its node unless it is one of rollcall (R147), told to its owner, an item that is gone
hearing nothing (R121), a window access ending with its code and data (R155), a success finding a LOST node by its probe (R145),
and the link freed, the arbiter looking and the end of WAKING's probes tested (R150, R151, R156). A cancelled window access
leaves the list, and the unit is free and answers with the code given (R155, R158). What an item and a BIND hear is stated with
their replies. The clock at an expiry is log entry 2, the order of counting, delivery and arbitration log entry 10, a waiting
probe of a node that is lost log entry 43. -/
def Obligations.FailuresAreCountedAndTheThirdLosesTheNode : Prop :=
  (∀ (s : State) (q : LinkRequest), s.held = false → s.live.link.onLink = some q →
    (s.live.link.sent = false →
      let k : Link := { s.live.link with
        sent := true, replyWindow := if isRound q then none else some (s.live.now + 8) }
      exec .linkRequestSent s = .next { s with live := { s.live with link := k } }) ∧
    (∀ e, s.live.link.replyWindow = some e →
      let l := countTransaction s.active q .failure { s.live with now := max s.live.now e }
      exec .replyWindowExpiry s =
        .next { s with live := settleCheck (freeLink (deliverOutcome s.active q .failure l)) })) ∧
  (∀ (img : Bank) (l : Live) (n : Node), l.link.nodeAt n.address = some n →
    let up := fun (x max : Nat) => if x < max then x + 1 else x
    let counted := { n with consecutive := up n.consecutive 3, total := up n.total 255 }
    (n.state = .bound ∨ n.state = .spare →
      (countOutcome img n.address true l).link.nodeAt n.address = some { n with consecutive := 0 } ∧
      (n.consecutive < 2 → (countOutcome img n.address false l).link.nodeAt n.address = some counted ∧
        (countOutcome img n.address false l).sequencer = l.sequencer) ∧
      (2 ≤ n.consecutive → n.consecutive ≤ 3 →
        let lost : Live := latch kNodeLost n.address
          { l with link := l.link.onNode n.address fun m =>
              { m with consecutive := up m.consecutive 3, total := up m.total 255, state := .lost } }
        let told := if n.state = .bound then nodeGone img n.serial lost else lost
        countOutcome img n.address false l =
          (if told.link.requests.any (fun q => q.owner == .window && q.address == n.address)
           then cancelAccess 12 told else told) ∧
        (countOutcome img n.address false l).link.nodeAt n.address = some { counted with state := .lost } ∧
        lost.events.latched.get 11 = some n.address)) ∧
    (∀ (success : Bool) (address : Nat), address ≠ n.address →
      (countOutcome img n.address success l).link.nodeAt address = l.link.nodeAt address) ∧
    (n.state = .lost ∨ n.state = .excluded → ∀ success, countOutcome img n.address success l = l)) ∧
  (∀ (s : State) (q : LinkRequest) (reply : LinkReply) (c : Instr), s.held = false →
    s.live.link.onLink = some q → s.live.link.sent = true →
    (c = .moveReply reply ∧ isMove q = true) ∨ (c = .homeReply reply ∧ isHome q = true) ∨
      (c = .setReply reply ∧ isSet q = true) ∨ (c = .haltReply reply ∧ isHalt q = true) ∨
      (c = .queryReply reply ∧ isPoll q = true) ∨ (c = .probeReply reply ∧ isProbe q = true) ∨
      (c = .bindReply reply ∧ isBind q = true) ∨ (c = .readReply reply ∧ isRead q = true) ∨
      (c = .writeReply reply ∧ isWrite q = true) →
    let e := replyEnding q.command reply
    let l := countTransaction s.active q e s.live
    exec c s = .next { s with live := settleCheck (freeLink (deliverOutcome s.active q e l)) }) ∧
  (∀ (img : Bank) (q : LinkRequest) (e : Ending) (s : State),
    let l := s.live
    let k := l.link
    let told := fun (echo : Byte) (code : Nat) (j : Link) =>
      (answer echo code [] { s with live :=
        { l with management := { l.management with inProgress := none }, link := j } }).live
    let access := l.management.inProgress
    let code := match e with
      | .accept => 0
      | .data _ => 0
      | .failure => 12
      | _ => 13
    let filled : Link := match e with
      | .data bytes => { k with window := Vector.ofFn fun i => bytes.getD i.val (k.window.get i) }
      | _ => k
    (q.owner = .rollcall → countTransaction img q e l = l) ∧
    (q.owner ≠ .rollcall → countTransaction img q e l = countOutcome img q.address (decide (e ≠ .failure)) l) ∧
    (∀ role id, q.owner = .item role id →
      (∀ it, itemOf l role = some it → it.id = id → deliverOutcome img q e l = itemOutcome img it q.command e l) ∧
      ((∀ it, itemOf l role = some it → it.id ≠ id) → deliverOutcome img q e l = l)) ∧
    (q.owner = .window →
      (access = some .nodeRead → deliverOutcome img q e l = told 0x38 code filled) ∧
      (access = some .nodeWrite → deliverOutcome img q e l = told 0x39 code filled)) ∧
    (q.owner = .probe →
      (∀ n, k.nodeAt q.address = some n → n.state = .lost → e ≠ .failure →
        let known : NodeState := if namesSerial img n.serial then .bound else .spare
        let found : Live :=
          latch kNodeFound n.address
            { l with link := k.onNode n.address fun m => { m with state := known, consecutive := 0 } }
        deliverOutcome img q e l = if known = .bound then nodeBound img n.serial found else found) ∧
      (e = .failure ∨ (∀ n, k.nodeAt q.address = some n → n.state ≠ .lost) → deliverOutcome img q e l = l)) ∧
    (q.owner = .rollcall →
      (∀ serial address, q.command = .bind serial address →
        deliverOutcome img q e l = bindEnds img serial address (decide (e = .accept)) l) ∧
      (∀ reset, q.command = .rollcall reset → deliverOutcome img q e l = l)) ∧
    (let free : Live := { l with link := { k with onLink := none, sent := false, replyWindow := none } }
     freeLink l = afterProbes (arbitrate free)) ∧
    (∀ result : Nat,
      let waits := ∃ x ∈ k.requests, x.owner = .window
      let left : Link := { k with requests := k.requests.filter fun x => x.owner != .window }
      (¬waits → cancelAccess result l = l) ∧
      (waits → access = some .nodeRead → cancelAccess result l = told 0x38 result left) ∧
      (waits → access = some .nodeWrite → cancelAccess result l = told 0x39 result left)))

/-- The 40 bits of a round have been read (R142, R143): a quiet or void round ends the series; a winner is bound to its
entry's address, or to the lowest free one; with 16 entries there is no BIND, DIRECTORY_FULL is latched and the series
ends. Where the part no longer runs a series the round ends it without a BIND, and a round left over from before WATCH has no
further effect. An all-ones serial with another kind is log entry 15, a round that the part state has overtaken log entry
28. -/
def Obligations.RoundsEndQuietVoidOrWithAWinner : Prop :=
  ∀ (s : State) (q : LinkRequest) (serial : BitVec 32) (kind : BitVec 8), s.held = false →
    s.live.link.onLink = some q → s.live.link.sent = true → isRound q = true →
    let img := s.active
    let k := s.live.link
    let state := s.live.part.state
    let waits := state = .starting ∨ (state = .waking ∧ k.wake = .rolling)
    let closed := fun l : Live => { l with link := { l.link with series := none } }
    let ends := fun l : Live => if waits then enterRun img (closed l) else closed l
    let won : Series → Series := fun x => { x with winner := some (serial.toNat, kind.toNat) }
    let asked : Live := { s.live with link := { k with series := k.series.map won } }
    let bound := fun a : Nat => placeRequest .rollcall 0 (.bind serial.toNat a) .rollcall asked
    let done := fun l : Live => Host.Outcome.next { s with live := freeLink l }
    let quiet := serial = 0xFFFFFFFF ∧ kind = 0xFF
    let goesOn := state = .run ∨ state = .settling ∨ waits
    (k.leftOver ≠ none →
      exec (.rollcallRoundEnd serial kind) s = done { s.live with link := { k with leftOver := none } }) ∧
    (k.leftOver = none → quiet ∨ serial = 0 → exec (.rollcallRoundEnd serial kind) s = done (ends s.live)) ∧
    (k.leftOver = none → ¬quiet → serial ≠ 0 → goesOn →
      (∀ n, k.nodeOf serial.toNat = some n → exec (.rollcallRoundEnd serial kind) s = done (bound n.address)) ∧
      (k.nodeOf serial.toNat = none → 16 ≤ k.directory.length →
        exec (.rollcallRoundEnd serial kind) s =
          done (ends (latch kDirectoryFull (serial.toNat % 65536) s.live))) ∧
      (∀ a : Nat, k.nodeOf serial.toNat = none → k.directory.length < 16 → 1 ≤ a → a ≤ 16 → k.nodeAt a = none →
        (∀ b : Nat, 1 ≤ b → b < a → k.nodeAt b ≠ none) →
        exec (.rollcallRoundEnd serial kind) s = done (bound a))) ∧
    (k.leftOver = none → ¬quiet → serial ≠ 0 → ¬goesOn → exec (.rollcallRoundEnd serial kind) s = done (closed s.live))

/-- A BIND ends (R143). Accepted: a new serial gets an entry (R146), a LOST one is found, a BOUND or SPARE one was repowered,
and an EXCLUDED one stays; each takes the kind read in the round. Failed: the second failure of the serial ends the
series. Else the next round is requested while a series goes on; a BIND left over from
before WATCH binds its node and no round follows it. The kind of an EXCLUDED entry: log entry 15; a series
that the part state has overtaken, and the waiting probe of a BOUND entry, which goes: log entry 28. -/
def Obligations.BindRepliesBindTheWinner : Prop :=
  (∀ (s : State) (q : LinkRequest) (serial address : Nat) (reply : LinkReply) (x : Series), s.held = false →
    s.live.link.onLink = some q → s.live.link.sent = true → q.owner = .rollcall → q.command = .bind serial address →
    s.live.link.series = some x →
    s.live.link.leftOver = none →
    let img := s.active
    let k := s.live.link
    let waits := fun l : Live => l.part.state = .starting ∨ (l.part.state = .waking ∧ l.link.wake = .rolling)
    let closed := fun l : Live => { l with link := { l.link with series := none } }
    let again := fun l : Live => if l.part.state = .run ∨ waits l
      then placeRequest .rollcall 0 (.rollcall false) .rollcall l else closed l
    let done := fun l : Live => Host.Outcome.next { s with live := settleCheck (freeLink l) }
    let kind := (x.winner.map (·.2)).getD 0
    let known : NodeState := if namesSerial img serial then .bound else .spare
    let told := fun l : Live => if known = .bound then nodeBound img serial l else l
    let entry : Node :=
      { serial := serial, address := address, kind := kind, state := known, consecutive := 0, total := 0 }
    let made : Live := { s.live with link := { k with directory := k.directory ++ [entry] } }
    let changed := fun (n : Node) (f : Node → Node) =>
      let l : Live := { s.live with link := k.onNode n.address f }
      withdraw (fun r => r.owner == .probe && r.address == n.address) l
    (replyEnding q.command reply = .accept →
      (k.nodeOf serial = none → entryFits k serial address = true →
        exec (.bindReply reply) s = done (again (told
          (if made.part.state = .run then latch kNodeFound address made else made)))) ∧
      (∀ n, k.nodeOf serial = some n → n.state = .lost →
        exec (.bindReply reply) s = done (again (told (latch kNodeFound n.address
          (changed n fun m => { m with kind := kind, state := known, consecutive := 0 }))))) ∧
      (∀ n, k.nodeOf serial = some n → n.state = .bound →
        exec (.bindReply reply) s = done (again (nodeBound img serial (nodeGone img serial (latch kNodeFound n.address
          (changed n fun m => { m with kind := kind, consecutive := 0 })))))) ∧
      (∀ n, k.nodeOf serial = some n → n.state = .spare →
        exec (.bindReply reply) s = done (again (latch kNodeFound n.address
          (changed n fun m => { m with kind := kind, consecutive := 0 })))) ∧
      (∀ n, k.nodeOf serial = some n → n.state = .excluded →
        let l : Live := { s.live with link := k.onNode n.address fun m => { m with kind := kind } }
        exec (.bindReply reply) s = done (again l))) ∧
    (replyEnding q.command reply ≠ .accept →
      (serial ∈ x.failedBinds →
        exec (.bindReply reply) s =
          done (if waits s.live then enterRun img (closed s.live) else closed s.live)) ∧
      (serial ∉ x.failedBinds →
        let y : Series := { x with failedBinds := x.failedBinds ++ [serial] }
        let l : Live := { s.live with link := { k with series := some y } }
        exec (.bindReply reply) s = done (again l)))) ∧
  (∀ (s : State) (q : LinkRequest) (serial address : Nat) (reply : LinkReply) (x : Series), s.held = false →
    s.live.link.onLink = some q → s.live.link.sent = true → q.owner = .rollcall → q.command = .bind serial address →
    s.live.link.leftOver = some x →
    let bound := bindAccepted s.active serial address ((x.winner.map (·.2)).getD 0) s.live
    let l := if replyEnding q.command reply = .accept then bound else s.live
    exec (.bindReply reply) s =
      .next { s with live := settleCheck (freeLink { l with link := { l.link with leftOver := none } }) }) ∧
  (∀ (k : Link) (serial address : Nat), entryFits k serial address = true ↔
    serial ≠ 0 ∧ serial ≠ 0xFFFFFFFF ∧ 1 ≤ address ∧ address ≤ 16 ∧ k.nodeAt address = none)

/-- The rollcall timer starts a series where a binding is UNSEEN or an entry LOST and none runs, and the probe timer places
a probe of each LOST entry that has none waiting, which goes on an idle link at once; a probe that its node answers finds a
LOST node (R144, R145, R147). A probe of a BOUND entry, which WAKING sends, or of a SPARE one changes nothing but the count
where it is answered and counts as a failure where it is not (R147); after the last probe of WAKING the series runs (R156).
The clock at an expiry is log entry 2, a probe answered by a refusal log entry 15, a link that is not RUNNING log entry 25.
-/
def Obligations.RollcallAndProbesLookForNodes : Prop :=
  (∀ (s : State) (e : Nat), s.held = false →
    let img := s.active
    let k := s.live.link
    let wanted := (∃ r : Role, (binding img r).serial ≠ 0 ∧ k.nodeOf (binding img r).serial = none) ∨
      (∃ n ∈ k.directory, n.state = .lost)
    let later := max s.live.now e
    (k.rollcallTimer = some e →
      let rolled : Link := { k with rollcallTimer := some (e + 2000) }
      let begun : Link := { rolled with series := some { winner := none, failedBinds := [] }, resetOwed := false }
      (k.series = none → wanted →
        let l : Live := { s.live with now := later, link := begun }
        exec .rollcallTimerExpiry s =
          .next { s with live := placeRequest .rollcall 0 (.rollcall k.resetOwed) .rollcall l }) ∧
      (k.series ≠ none ∨ ¬wanted →
        exec .rollcallTimerExpiry s = .next { s with live := { s.live with now := later, link := rolled } })) ∧
    (k.probeTimer = some e →
      let l : Live := { s.live with now := later, link := { k with probeTimer := some (e + 1000) } }
      exec .probeTimerExpiry s = .next { s with live := placeProbes .lost l })) ∧
  (∀ l : Live, l.link.onLink ≠ none →
    let lost := (List.range 17).filter fun a => l.link.directory.any fun n => n.address == a && n.state == .lost
    let fresh := lost.filter fun a => !l.link.requests.any fun q => q.owner == .probe && q.address == a
    let probe := fun a : Nat =>
      ({ owner := .probe, address := a, command := .query 0, cls := .probe, joined := l.now } : LinkRequest)
    placeProbes .lost l = { l with link := { l.link with requests := l.link.requests ++ fresh.map probe } }) ∧
  (∀ (l : Live) (a : Nat),
    let waits := l.link.requests.any fun q => q.owner == .probe && q.address == a
    let probe : LinkRequest := { owner := .probe, address := a, command := .query 0, cls := .probe, joined := l.now }
    placeProbe a l = (if waits then l
      else arbitrate { l with link := { l.link with requests := l.link.requests ++ [probe] } }) ∧
    (waits = false → l.link.state = .running → l.link.onLink = none → l.link.requests = [] →
      placeProbe a l =
        { l with link := { l.link with onLink := some probe, requests := [], sent := false, replyWindow := none } })) ∧
  (∀ (s : State) (q : LinkRequest) (reply : LinkReply) (n : Node), s.held = false →
    s.live.link.onLink = some q → s.live.link.sent = true → q.owner = .probe → s.live.link.nodeAt q.address = some n →
    let img := s.active
    let ending := replyEnding q.command reply
    let known : NodeState := if namesSerial img n.serial then .bound else .spare
    let found : Live :=
      { s.live with link := s.live.link.onNode n.address fun m => { m with state := known, consecutive := 0 } }
    let latched : Live := latch kNodeFound n.address found
    let done := fun l : Live => Host.Outcome.next { s with live := settleCheck (freeLink l) }
    (n.state = .lost → ending ≠ .failure →
      exec (.probeReply reply) s = done (if known = .bound then nodeBound img n.serial latched else latched)) ∧
    (n.state = .lost → ending = .failure → exec (.probeReply reply) s = done s.live) ∧
    (n.state = .excluded → exec (.probeReply reply) s = done s.live) ∧
    (n.state = .bound ∨ n.state = .spare → ending ≠ .failure →
      let l : Live := { s.live with link := s.live.link.onNode q.address fun m => { m with consecutive := 0 } }
      exec (.probeReply reply) s = done l) ∧
    (n.state = .bound ∨ n.state = .spare → ending = .failure →
      exec (.probeReply reply) s = done (countOutcome img q.address false s.live)) ∧
    (n.state = .bound → s.live.part.state = .waking → s.live.link.wake = .probing →
      (∀ x ∈ s.live.link.requests, x.owner ≠ .probe) →
      ∃ t, exec (.probeReply reply) s = .next t ∧ t.live.link.wake = .rolling ∧ t.live.link.series ≠ none))

/-- WINDOW_PUT and WINDOW_GET write and read the window, wrapping from 15 to 0; NODE_READ and NODE_WRITE end at once where
R155 says so, and else are in progress with one request of class window, whose data are the window's bytes of that moment
(R155, R170). The reply to a READ or WRITE of the window ends the access: DONE, with the data in the window's first bytes
for a READ; NODE_REFUSED; or NO_REPLY. The unit is free again and answers the request (R155, R158). The order of counting
and delivery: log entry 10; of the cases that end an access at once: log entry 39. -/
def Obligations.WindowRequestsBeginAndEndTheirAccess : Prop :=
  (∀ s : State, s.takes = true →
    (∀ (offset count : Nat) (data : List Byte),
      (15 < offset ∨ count = 0 ∨ 5 < count →
        exec (.windowPut offset count data) s = .next (resetRange (answer 0x3A 4 [] s))) ∧
      (offset ≤ 15 → 1 ≤ count → count ≤ 5 → count ≤ data.length →
        ∃ w : Vector Byte 16,
          exec (.windowPut offset count data) s = .next (resetRange (answer 0x3A 0 []
            { s with live := { s.live with link := { s.live.link with window := w } } })) ∧
          ∀ k : Fin 16,
            let j := (k.val + 16 - offset) % 16
            w.get k = if j < count then byteAt data j else s.live.link.window.get k)) ∧
    (∀ offset : Nat,
      let bytes := (List.range 6).map fun k => s.live.link.window.toList.getD ((offset + k) % 16) 0
      exec (.windowGet offset) s = .next (resetRange
        (if 15 < offset then answer 0x3B 4 [] s else answer 0x3B 0 bytes s))) ∧
    (∀ address register count : Nat,
      let k := s.live.link
      let node := k.nodeAt address
      let inRange := 1 ≤ address ∧ address ≤ 16 ∧ 1 ≤ count ∧ count ≤ 16
      let refused : Option Nat := if k.state = .failed then some 11 else match node with
        | none => some 12
        | some n =>
          if n.state = .lost ∨ n.state = .excluded then some 12
          else if 255 < register ∧ n.kind ≤ 127 then some 13
          else none
      let wide := node.any fun n => decide (128 ≤ n.kind)
      let data := k.window.toList.take count
      let busy := fun c : Completion =>
        { s.live with management := { s.live.management with inProgress := some c } }
      (¬inRange →
        exec (.nodeRead address register count) s = .next (resetRange (answer 0x38 4 [] s)) ∧
        exec (.nodeWrite address register count) s = .next (resetRange (answer 0x39 4 [] s))) ∧
      (∀ code : Nat, inRange → refused = some code →
        exec (.nodeRead address register count) s = .next (resetRange (answer 0x38 code [] s)) ∧
        exec (.nodeWrite address register count) s = .next (resetRange (answer 0x39 code [] s))) ∧
      (inRange → refused = none →
        let reads := placeRequest .window address (.read wide register count) .window (busy .nodeRead)
        let writes := placeRequest .window address (.write wide register data) .window (busy .nodeWrite)
        exec (.nodeRead address register count) s = .next (resetRange { s with live := reads }) ∧
        exec (.nodeWrite address register count) s = .next (resetRange { s with live := writes })))) ∧
  (∀ (s : State) (q : LinkRequest) (reply : LinkReply), s.held = false →
    s.live.link.onLink = some q → s.live.link.sent = true → q.owner = .window →
    (∀ x ∈ s.live.link.requests, x.owner ≠ .window) →
    let ending := replyEnding q.command reply
    let counted := countTransaction s.active q ending s.live
    let code := match ending with
      | .accept => 0
      | .data _ => 0
      | .failure => 12
      | _ => 13
    let filled : Vector Byte 16 := match ending with
      | .data bytes => Vector.ofFn fun k => bytes.getD k.val (s.live.link.window.get k)
      | _ => s.live.link.window
    let free : Live :=
      { counted with
        management := { s.live.management with inProgress := none }
        link := { counted.link with window := filled } }
    let ended := fun echo : Byte =>
      { s with live := settleCheck (freeLink (answer echo code [] { s with live := free }).live) }
    (isRead q = true → s.live.management.inProgress = some .nodeRead →
      exec (.readReply reply) s = .next (ended 0x38)) ∧
    (isWrite q = true → s.live.management.inProgress = some .nodeWrite →
      exec (.writeReply reply) s = .next (ended 0x39)))

/-- A stuck line ends the transaction in progress and starts recovery (R152). An attempt that frees the line restores the
link, with LINK_STUCK of its number; the third that does not makes the link FAILED, every BOUND and SPARE entry LOST
(R153). A FAILED link is tried every 5 s (R154). The clock at an expiry is log entry 2, the order of counting and delivery
log entry 10, a BIND ended by a stuck line log entry 15, the ABSENT roles of a FAILED link log entry 26, that the entries are
LOST before LINK_FAILED is latched log entry 42. -/
def Obligations.StuckLinesAreRecovered : Prop :=
  ∀ s : State, s.held = false →
    let img := s.active
    let k := s.live.link
    let n := k.attempts + 1
    let on := fun j : Link => { s.live with link := j }
    let done := fun l : Live => Host.Outcome.next { s with live := settleCheck l }
    let ended : Link := { k with attempts := n, attempting := false }
    (k.state = .running → s.live.part.state ≠ .watch →
      let broken : Link := { k with state := .recovering, attempts := 0, attempting := true }
      (k.onLink = none → exec .lineStuck s = done (on broken)) ∧
      (∀ q, k.onLink = some q →
        (isRound q = true → exec .lineStuck s = done (freeLink (on (if k.leftOver = none
          then { broken with series := none } else { broken with leftOver := none })))) ∧
        (isRound q = false → exec .lineStuck s =
          done (freeLink (deliverOutcome img q .failure (countTransaction img q .failure (on broken))))))) ∧
    (k.state = .recovering → k.attempting = true →
      let running : Link := { ended with state := .running }
      exec (.recoveryAttemptEnd true) s = done (linkRestored (arbitrate (latch kLinkStuck n (on running)))) ∧
      (n < 3 →
        exec (.recoveryAttemptEnd false) s = done (on { ended with delayTimer := some (s.live.now + 100) })) ∧
      (3 ≤ n →
        let reached := (k.directory.filter fun m => m.state == .bound || m.state == .spare).length
        let gone := k.directory.map fun m =>
          if m.state = .bound ∨ m.state = .spare then { m with state := .lost } else m
        let failed : Link := { ended with state := .failed, retryTimer := some (s.live.now + 5000), directory := gone }
        let access := cancelAccess 11 (linkGone img (latch kLinkFailed reached (on failed)))
        let kept := withdraw (fun q => q.owner == .probe || q.owner == .rollcall) access
        let l : Live := { kept with link := { kept.link with series := none } }
        exec (.recoveryAttemptEnd false) s =
          done (if s.live.part.state = .starting ∨ s.live.part.state = .waking then enterRun img l else l))) ∧
    (k.state = .failed → k.attempting = true →
      let back : Live := arbitrate (on { k with attempting := false, state := .running, retryTimer := none })
      exec (.recoveryAttemptEnd false) s = done (on { k with attempting := false }) ∧
      exec (.recoveryAttemptEnd true) s =
        done (if s.live.part.state = .run then startSeries (placeProbes .lost back) else linkRestored back)) ∧
    (∀ e : Nat,
      let later : Live := { s.live with now := max s.live.now e }
      (k.delayTimer = some e →
        let j : Link := { k with delayTimer := none, attempting := true }
        exec .recoveryDelayExpiry s = .next { s with live := { later with link := j } }) ∧
      (k.retryTimer = some e →
        let j : Link := { k with retryTimer := some (e + 5000), attempting := true }
        exec .failedRetryExpiry s = .next { s with live := { later with link := j } }))

/-- EXCLUDE_NODE, ADMIT_NODE and CLEAR_FAULT: an entry becomes EXCLUDED with its counts kept, its waiting probe removed
and its loss reported; an EXCLUDED entry becomes LOST with its consecutive count at 3; a FAULTED actuator takes the state
that its node's state gives it, ABSENT where its node has no such entry. Each is answered DONE, also where nothing
changes, and RANGE for what does not exist (R133, R148, R170). The roles of a node that is lost or excluded, or of a FAILED
link, lose their work and pending targets and become OFFLINE unless FAULTED, and the roles of a node that is bound and that
were ABSENT or OFFLINE become UNCERTAIN and are served from their kept targets in RUN (R131, R132); the budget's records follow
R108, their shed entries end with the test made again (R107), and a room notice follows released load. What CLEAR_FAULT leaves
of an off SET, and the end of SETTLING by EXCLUDE_NODE: log entry 13; the order inside such an event: log entry 9; the ABSENT
roles of a FAILED link: log entry 26; the load of a SET that an activation overtook: log entry 44; the order in which several
roles are served: log entry 45. -/
def Obligations.NodesAreExcludedAdmittedAndFaultsCleared : Prop :=
  (∀ s : State, s.takes = true →
    let img := s.active
    let k := s.live.link
    (∀ (address : Nat) (n : Node), 1 ≤ address → address ≤ 16 → k.nodeAt address = some n →
      let out : Live := { s.live with link := k.onNode address fun m => { m with state := .excluded } }
      let quiet := withdraw (fun q => q.owner == .probe && q.address == address) out
      let told := if n.state = .bound ∨ n.state = .spare ∨ (n.state = .lost ∧ namesSerial img n.serial = true)
        then nodeGone img n.serial quiet else quiet
      let admitted : Live :=
        { s.live with link := k.onNode address fun m => { m with state := .lost, consecutive := 3 } }
      exec (.excludeNode address) s =
        .next (resetRange (answer 0x1D 0 [] { s with live := settleCheck (afterProbes told) })) ∧
      exec (.admitNode address) s = .next (resetRange (answer 0x1E 0 []
        (if n.state = .excluded then { s with live := admitted } else s)))) ∧
    (∀ address : Nat, address = 0 ∨ 16 < address ∨ k.nodeAt address = none →
      exec (.excludeNode address) s = .next (resetRange (answer 0x1D 4 [] s)) ∧
      exec (.admitNode address) s = .next (resetRange (answer 0x1E 4 [] s))) ∧
    (∀ r : Role,
      let a := s.live.sequencer.actuators.get r
      (a.state ≠ .faulted → exec (.clearFault r.val) s = .next (resetRange (answer 0x19 0 [] s))) ∧
      (a.state = .faulted →
        let sound : Sequencer :=
          { s.live.sequencer with
            actuators := s.live.sequencer.actuators.set r { a with fault := none, overruns := 0 } }
        let l : Live := { s.live with sequencer := sound }
        (nodeStateOf img s.live r = some .bound →
          exec (.clearFault r.val) s =
            .next (resetRange (answer 0x19 0 [] { s with live := rolesUncertain img [r] l }))) ∧
        (nodeStateOf img s.live r = some .lost ∨ nodeStateOf img s.live r = some .excluded →
          exec (.clearFault r.val) s = .next (resetRange (answer 0x19 0 []
            { s with live := reportStates img (unreachable img) [r] (setActuatorState r .offline l) }))) ∧
        (nodeStateOf img s.live r = none ∨ nodeStateOf img s.live r = some .spare →
          let linkDown := s.live.link.state = .failed ∧ (binding img r).serial ≠ 0
          let capped := if 12 ≤ r.val ∧ r.val < 16 then
            s.live.budget.capped.set (zoneOf r) false else s.live.budget.capped
          let calm := s.live.sequencer.actuators.set r { a with fault := none, overruns := 0, state := .absent }
          let absent : Live :=
            { s.live with
              sequencer := { s.live.sequencer with actuators := calm }
              budget := { s.live.budget with capped := capped } }
          let cleared := if linkDown then reportStates img (unreachable img) [r] (setActuatorState r .offline l)
            else reportStates img (fun _ _ => { accepted := 0, transit := none, commitment := 0 }) [r] absent
          exec (.clearFault r.val) s = .next (resetRange (answer 0x19 0 [] { s with live := cleared }))))) ∧
    (∀ role : Nat, 19 < role → exec (.clearFault role) s = .next (resetRange (answer 0x19 4 [] s)))) ∧
  (∀ (img : Bank) (f : Role → Consumer → Consumer) (roles : List Role) (l : Live), roles.Nodup →
    let u := l.sequencer
    let used := l.budget.consumers.get
    let gone := fun r : Role => roles.contains r
    let lost : Role → Consumer → Consumer := fun r c =>
      if r.val < 12 then { c with commitment := 0 }
      else if c.transit = none then c
      else { c with transit := none, commitment := loadOf img r c.accepted }
    let blank : Role → Consumer → Consumer := fun _ _ => { accepted := 0, transit := none, commitment := 0 }
    let heard := fun (g : Role → Consumer → Consumer) (m : Live) =>
      let told : Live := { m with budget := { l.budget with
        consumers := Vector.ofFn fun r => if gone r then g r (used r) else used r
        shedList := l.budget.shedList.filter fun x => !gone x.role } }
      if l.budget.shedList.any (fun x => gone x.role) = true then testShed img told else told
    let released := fun g : Role → Consumer → Consumer => ∃ r ∈ roles, (g r (used r)).commitment < (used r).commitment
    let noticed := fun (g : Role → Consumer → Consumer) (m : Live) =>
      if released g then roomNotice img (heard g m) else heard g m
    let cut : Live := { l with
      sequencer := { u with
        actuators := Vector.ofFn fun r =>
          let a := u.actuators.get r
          if gone r then { a with pendingTarget := none, state := if a.state = .faulted then .faulted else .offline } else a
        queue := u.queue.filter fun x => !gone x.role
        inFlight := u.inFlight.filter fun x => !gone x.role
        suspended := u.suspended.filter fun x => !gone x.role }
      link := { l.link with requests := l.link.requests.filter fun x => !roles.any fun r => x.owner.isItemOf r } }
    let unsure : Live := { l with sequencer := { u with
      actuators := Vector.ofFn fun r =>
        let a := u.actuators.get r
        if gone r then { a with state := .uncertain } else a } }
    let kept := fun (m : Live) (r : Role) => match (m.sequencer.actuators.get r).target with
      | some t => if m.part.state = .run then targetArrival img r t m else m
      | none => m
    (∀ (r : Role) (c : Consumer), unreachable img r c = lost r c) ∧
    reportStates img f roles l = noticed f l ∧
    rolesGone img roles l = (if released lost then roomNotice img (heard lost cut) else offer img (heard lost cut)) ∧
    rolesUncertain img roles l = roles.foldl kept (noticed blank unsure)) ∧
  (∀ (img : Bank) (serial : Nat) (l : Live),
    let bound := (List.finRange 20).filter fun r => decide ((binding img r).serial ≠ 0)
    let named := bound.filter fun r => decide ((binding img r).serial = serial)
    let away := fun r : Role =>
      let state := (l.sequencer.actuators.get r).state
      decide (state = .absent ∨ state = .offline)
    nodeGone img serial l = rolesGone img named l ∧ linkGone img l = rolesGone img bound l ∧
    nodeBound img serial l = rolesUncertain img (named.filter away) l)

/-! ### Table images and the store (chapter 9) -/

/-- LOAD_POINT sets the pointer or is refused RANGE or PROTECTED with the pointer kept; LOAD_DATA writes its bytes to PENDING
from the pointer on, wrapping in the page and never leaving it, replies with the pointer after them, and is refused RANGE,
SEQUENCE or PROTECTED. A save in progress hinders neither (R162). The order of the refusals: log entry 39. -/
def Obligations.LoadRequestsWritePending : Prop :=
  ∀ s : State, s.takes = true →
    let group := fun page : Nat => if page ≤ 11 then 0 else if page ≤ 15 then 1 else if page ≤ 17 then 2 else 3
    let m := s.live.management
    let guarded := fun page : Nat => m.protectSet.getLsbD (group page) = true
    let pointed := fun (page offset : Nat) =>
      { s with live := { s.live with management := { m with pointer := some (page, offset) } } }
    (∀ page offset : Nat, exec (.loadPoint page offset) s = .next (resetRange (
      if 19 < page ∨ 127 < offset then answer 0x20 4 [] s
      else if guarded page then answer 0x20 5 [] s
      else answer 0x20 0 [] (pointed page offset)))) ∧
    (∀ (count : Nat) (data : List Byte), count = 0 ∨ 6 < count →
      exec (.loadData count data) s = .next (resetRange (answer 0x21 4 [] s))) ∧
    (∀ (count : Nat) (data : List Byte), 1 ≤ count → count ≤ 6 → m.pointer = none →
      exec (.loadData count data) s = .next (resetRange (answer 0x21 9 [] s))) ∧
    (∀ (count : Nat) (data : List Byte) (page offset : Nat), 1 ≤ count → count ≤ 6 → m.pointer = some (page, offset) →
      guarded page → exec (.loadData count data) s = .next (resetRange (answer 0x21 5 [] s))) ∧
    (∀ (count : Nat) (data : List Byte) (page offset : Nat), 1 ≤ count → count ≤ 6 → count ≤ data.length →
      m.pointer = some (page, offset) → page ≤ 19 → offset ≤ 127 → ¬guarded page → bankWf s.loading = true →
      let after := (offset + count) % 128
      ∃ b : Bank,
        exec (.loadData count data) s =
          .next (resetRange (answer 0x21 0 [byte page, byte after] { pointed page after with loading := b })) ∧
        ∀ a : Nat,
          let j := (a % 128 + 128 - offset) % 128
          readByte b a = if a / 128 = page ∧ j < count then byteAt data j else readByte s.loading a)

/-- The validation of an image: ACTIVATE finds the first failing record in page and record order, and each record by its
checks (R164). Rule records (R30), slot definitions (R48), bindings and records 4 to 7 of page 17 (R114), zone profiles and the planner's
fields (R95), wake patterns (R164), and on page 19 the air source's fields (R70), the budget's (R110) and the timing fields
(R114, R177, R181). -/
def Obligations.ValidationFindsTheFirstFailingRecord : Prop :=
  ∀ img : Bank,
    let yesNo := fun v : Nat => v = 0 ∨ v = 1
    let range := fun (x lo hi : Int) => lo ≤ x ∧ x ≤ hi
    let permille := fun n : Nat => n ≤ 1000
    let fits := fun (f : FrameFormat) (n : Nat) => n < (if f = .base then 2 ^ 11 else 2 ^ 29)
    let rule := fun n : Nat =>
      let r := ruleAt img n
      r.enabled = true → r.minLen ≤ 8 ∧ fits r.format r.ident ∧ fits r.format r.mask ∧
        (r.veto = false → 1 ≤ r.width ∧ r.width ≤ 16 ∧ r.start ≤ 63 ∧ r.start + r.width ≤ 8 * r.minLen ∧
          (r.big = true → r.start % 8 = 0 ∧ (r.width = 8 ∨ r.width = 16)))
    let slot := fun n : Fin 32 =>
      let d := slotDef img n
      let full := slotRange n.val
      yesNo (readByte img (128 * 12 + 16 * n.val)).toNat ∧ range d.lo full.1 full.2 ∧ range d.hi full.1 full.2 ∧
        range d.default d.lo d.hi ∧ 1 ≤ d.maxAge ∧ d.maxAge ≤ 255
    let serial := fun n : Nat => u32 img (128 * 16 + 8 * n)
    let flags := fun n : Nat => (readByte img (128 * 16 + 8 * n + 4)).toNat
    let bound := fun n : Nat => serial n ≠ 0 →
      let travel := u16 img (128 * 16 + 8 * n + 6)
      serial n ≠ 2 ^ 32 - 1 ∧ flags n % 16 ≤ 3 ∧ yesNo (flags n / 16) ∧ 5 ≤ travel ∧ travel ≤ 600 ∧
        (readByte img (128 * 16 + 8 * n + 5)).toNat ≤ 100 ∧
        (n < 20 → ∀ m, m < n → ¬(serial m = serial n ∧ flags m % 16 = flags n % 16))
    let zone := fun z : Fin 4 =>
      let p := profile img z
      yesNo (readByte img (128 * 18 + 24 * z.val)).toNat ∧ range p.sLo (-400) 1500 ∧ range p.sHi (-400) 1500 ∧
        range p.setpoint p.sLo p.sHi ∧ p.wmin ≤ p.wmax ∧ p.wmax ≤ 1000 ∧ p.ilim ≤ 8000
    let wake := fun k : Fin 4 =>
      let w := wakePattern img k
      w.enabled = true → fits w.format w.ident ∧ fits w.format w.mask
    let air :=
      (∀ k : Fin 4, hazeWeight img k ≤ 512) ∧
      (∀ n ∈ [shieldOn img, closeOn img, closeOff img, clearBelow img, freshNominal img, freshMin img,
        shieldFraction img, boostLevel img, shieldFloorMin img, shieldStep img, ingressLimit img], permille n) ∧
      1 ≤ purgeTime img ∧ 1 ≤ purgeLimitTime img ∧ range (coldLimit img) (-400) 1500 ∧
      range (hotLimit img) (-400) 1500 ∧ range (pressureTarget img) (-500) 500 ∧ pressureBand img ≤ 1000 ∧
      clearBelow img < shieldOn img ∧ shieldOn img ≤ closeOn img ∧ closeOff img < closeOn img ∧
      freshMin img ≤ freshNominal img ∧ coldLimit img ≤ hotLimit img ∧ purgeTime img ≤ purgeLimitTime img ∧
      pressureTarget img + pressureBand img ≤ 500
    let planner :=
      range (planPeriod img) 100 2000 ∧ range (coolantMin img) (-400) 1500 ∧ coreDrop img ≤ 500 ∧
      range (stageRise img) 1 200 ∧ range (spanMin img) 1 500 ∧ range (defrostAuto img) (-400) 1500
    let budget :=
      baseBudget img ≤ 2000 ∧ bandHi img ≤ 400 ∧ bandMid img ≤ 400 ∧ bandLo img ≤ 400 ∧ bandLo img ≤ bandMid img ∧
      bandMid img ≤ bandHi img ∧ (∀ z : Fin 4, blowerRated img z ≤ 2000) ∧ stageCurrent img ≤ 2000 ∧
      motionCurrent img ≤ 2000
    let timing :=
      range (pollInterval img) 10 1000 ∧ range (statusPeriod img) 100 10000 ∧ range (watchDelay img) 1000 600000
    let passes := fun page record : Nat =>
      (page < 12 → record < 8 → rule (8 * page + record)) ∧
      (∀ n : Fin 32, page = 12 + n.val / 8 → record = n.val % 8 → slot n) ∧
      (page = 16 → record < 16 → bound record) ∧ (page = 17 → record < 8 → bound (16 + record)) ∧
      (∀ z : Fin 4, page = 18 → record = z.val → zone z) ∧ (∀ k : Fin 4, page = 18 → record = 4 + k.val → wake k) ∧
      (page = 19 → record = 0 → air ∧ planner ∧ budget ∧ timing)
    (firstInvalid img = none ↔ ∀ page record, passes page record) ∧
    ∀ page record : Nat, firstInvalid img = some (page, record) ↔ ¬passes page record ∧
      ∀ p n : Nat, p < page ∨ (p = page ∧ n < record) → passes p n

/-- ACTIVATE makes its four tests in their order; where all pass PENDING becomes ACTIVE, the store stands, and the blocks
take the image in the order of R165: the slots whose 16 definition bytes changed return to NEVER, the directory, the
sequencer, the budget, the planner and the air source controller follow, and IMAGE_ACTIVATED is latched (R49, R164,
R165). In the sequencer each role whose 8 binding bytes changed loses its work, pending target, overruns, fault reason and guard
and takes the state of its node, with the budget's record of R108, and is served from its kept target where it is UNCERTAIN
(R136); band and avail are worked out anew (R110); a zone whose 24 profile bytes changed has its integrator at 0 and a stage
without a binding its target off (R96); f in FRESH and the targets are worked out and issued (R71). The notices inside an
activation, and the targets in other modes: log entry 16; the order of room notice and test for shedding: log entry 9; the order
in which the changed roles are served: log entry 45. -/
def Obligations.ActivateTestsThenReplaces : Prop :=
  (∀ (s : State) (check : Nat), s.takes = true →
    let parked := (presented s.active s.live.slots 15).isTrue = true ∧ (presented s.active s.live.slots 14).isFalse = true
    let sum := bytes16 (bankCheck s.loading)
    exec (.activate check) s = .next (resetRange (
      if s.live.management.saving.isSome then answer 0x25 10 [] s
      else if ¬parked then answer 0x25 6 [] s
      else if bankCheck s.loading ≠ check then answer 0x25 7 sum s
      else match firstInvalid s.loading with
        | some (page, record) => answer 0x25 8 [byte page, byte record] s
        | none =>
          let live := settleCheck (handOver s.active s.loading s.live)
          answer 0x25 0 sum { s with active := s.loading, live := live }))) ∧
  (∀ (old img : Bank) (l : Live),
    let first := slotsActivate old img l
    let nodes : Live :=
      { first with link := { first.link with directory := first.link.directory.map fun n =>
          if n.state = .bound ∨ n.state = .spare
          then { n with state := if namesSerial img n.serial then .bound else .spare } else n } }
    let moved := sequencerActivates old img nodes
    let worked := workOutAvail img moved
    let budget := testShed img (if moved.budget.avail < worked.budget.avail then roomNotice img worked else worked)
    handOver old img l = latch kImageActivated (bankCheck img)
      (airActivates img { budget with planner := plannerActivates old img budget.planner }) ∧
    ∀ n : Fin 32,
      let r := l.slots.get n
      first.slots.get n = if sameBytes old img (128 * 12 + 16 * n.val) 16 = true then r
        else { r with belief := .never, value := (slotDef img n).default, rank := 3, since := none, clamped := false }) ∧
  (∀ (old img : Bank) (l : Live),
    let u := l.sequencer
    let used := l.budget.consumers.get
    let roles := (List.finRange 20).filter fun r => !sameBytes old img (128 * 16 + 8 * r.val) 8
    let gone := fun r : Role => roles.contains r
    let state : Role → ActuatorState := fun r => match nodeStateOf img l r with
      | some .bound => .uncertain
      | some .lost | some .excluded => .offline
      | _ => .absent
    let record : Role → Consumer := fun r =>
      if state r = .offline then unreachable img r (used r) else { accepted := 0, transit := none, commitment := 0 }
    let cut : Live := { l with
      sequencer := { u with
        actuators := Vector.ofFn fun r =>
          let a := u.actuators.get r
          if gone r then
            { a with state := state r, pendingTarget := none, overruns := 0, fault := none, guardTime := none }
          else a
        queue := u.queue.filter fun x => !gone x.role
        inFlight := u.inFlight.filter fun x => !gone x.role
        suspended := u.suspended.filter fun x => !gone x.role }
      link := { l.link with requests := l.link.requests.filter fun x => !roles.any fun r => x.owner.isItemOf r }
      budget := { l.budget with
        consumers := Vector.ofFn fun r => if gone r then record r else used r
        shedList := l.budget.shedList.filter fun x => !gone x.role
        capped := Vector.ofFn fun z =>
          l.budget.capped.get z && !(gone (blowerRole z) && decide (state (blowerRole z) = .absent)) } }
    let released := ∃ r ∈ roles, (record r).commitment < (used r).commitment
    let offered := if roles = [] then cut else if released then roomNotice img cut else offer img cut
    let kept := fun (m : Live) (r : Role) => match (m.sequencer.actuators.get r).target with
      | some t => if m.part.state = .run then targetArrival img r t m else m
      | none => m
    sequencerActivates old img l = (roles.filter fun r => decide (state r = .uncertain)).foldl kept offered) ∧
  (∀ (old img : Bank) (p : Planner) (l : Live),
    let battery := presented img l.slots batterySlot
    let band : Band := if battery.valid = false then .unknown
      else if (bandHi img : Int) ≤ battery.value then .high
      else if (bandMid img : Int) ≤ battery.value then .mid
      else if (bandLo img : Int) ≤ battery.value then .low
      else .critical
    let percent := match band with
      | .high => 100
      | .mid => 75
      | .low => 50
      | .critical => 25
      | .unknown => 50
    let a := l.air
    let out := presented img l.slots outTempSlot
    let f := if a.mode ≠ .fresh then a.fraction
      else if a.defrostCopy then 1000
      else if out.valid ∧ (out.value < coldLimit img ∨ hotLimit img < out.value) then freshMin img
      else freshNominal img
    let filter := if a.mode = .shield then shieldFraction img else 0
    let new : Air := { a with
      fraction := f
      intake := match a.mode with
        | .fresh => f
        | .purge => 1000
        | _ => 0
      filter := filter
      recirc := match a.mode with
        | .fresh => 1000 - f
        | .purge => 0
        | _ => 1000 - filter }
    plannerActivates old img p = { p with
      zones := Vector.ofFn fun z =>
        let zone := p.zones.get z
        if sameBytes old img (128 * 18 + 24 * z.val) 24 = true then zone else { zone with integrator := 0 }
      stageTargets := Vector.ofFn fun n => p.stageTargets.get n && decide ((binding img (stageRole n)).serial ≠ 0) } ∧
    workOutAvail img l = { l with budget := { l.budget with band := band, avail := baseBudget img * percent / 100 } } ∧
    airActivates img l = issueTargets img { l with air := new })

/-- The rule-range clear (R166): the table of MARK_FIRST, MARK_LAST, KEEP and CLEAR_MARKED in the sequence's three states,
every refusal leaving it IDLE; the clear itself, which sets the enabled field of the marked rules to no in PENDING and
nothing else there, and counts them; and the requests that make the sequence IDLE. -/
def Obligations.RuleRangeFollowsItsTable : Prop :=
  ∀ s : State, s.takes = true →
    let m := s.live.management
    let into := fun x : RuleRange => { s with live := { s.live with management := { m with ruleRange := x } } }
    let refused := fun (echo : Byte) (code : Nat) => Host.Outcome.next (answer echo code [] (into .idle))
    (∀ n : Nat,
      (n ≤ 95 → exec (.markFirst n) s = .next (answer 0x30 0 [] (into (.first n)))) ∧
      (95 < n → exec (.markFirst n) s = refused 0x30 4)) ∧
    (m.ruleRange = .idle →
      (∀ n : Nat, exec (.markLast n) s = refused 0x31 9 ∧ exec (.keep n) s = refused 0x32 9) ∧
      exec .clearMarked s = refused 0x33 9) ∧
    (∀ f : Nat, m.ruleRange = .first f →
      (∀ n : Nat,
        (f ≤ n ∧ n ≤ 95 → exec (.markLast n) s = .next (answer 0x31 0 [] (into (.range f n [])))) ∧
        (n < f ∨ 95 < n → exec (.markLast n) s = refused 0x31 4) ∧
        exec (.keep n) s = refused 0x32 9) ∧
      exec .clearMarked s = refused 0x33 9) ∧
    (∀ (f l : Nat) (kept : List Nat), m.ruleRange = .range f l kept →
      (∀ n : Nat, exec (.markLast n) s = refused 0x31 9) ∧
      (∀ n : Nat,
        (n < f ∨ l < n → exec (.keep n) s = refused 0x32 4) ∧
        (f ≤ n → n ≤ l → n ∈ kept → exec (.keep n) s = .next (answer 0x32 0 [] s)) ∧
        (f ≤ n → n ≤ l → n ∉ kept → 8 ≤ kept.length → exec (.keep n) s = refused 0x32 4) ∧
        (f ≤ n → n ≤ l → n ∉ kept → kept.length < 8 →
          exec (.keep n) s = .next (answer 0x32 0 [] (into (.range f l (kept ++ [n])))))) ∧
      (m.protectSet.getLsbD 0 = true → exec .clearMarked s = refused 0x33 5) ∧
      (m.protectSet.getLsbD 0 = false → bankWf s.loading = true → l ≤ 95 →
        let marked := fun n : Nat => f ≤ n ∧ n ≤ l ∧ n ∉ kept
        let count := ((List.range 96).filter fun n => decide (marked n)).length
        ∃ b : Bank,
          exec .clearMarked s = .next (answer 0x33 0 [byte count] { into .idle with loading := b }) ∧
          ∀ a : Nat, readByte b a =
            if a % 16 = 0 ∧ marked (a / 16) then readByte s.loading a &&& 0xFE else readByte s.loading a)) ∧
    (∀ (r : Request) (t : State), exec (commandOf r) s = .next t →
      ((∃ n, r = .markFirst n) ∨ (∃ n, r = .markLast n) ∨ (∃ n, r = .keep n)) ∨
      t.live.management.ruleRange =
        (match r with
          | .identify | .readSlot _ _ | .readActuator _ _ | .readNode _ _ | .readPage _ _ _ | .checkPending
          | .readEvents _ _ | .readCounters _ _ _ => m.ruleRange
          | _ => .idle))

/-- PROTECT and UNPROTECT write the store word and answer at its end; SAVE programs pages 0 to 19 and the check, with the
bytes that did not take, reads back, and reports SAVE_DONE or the first item that disagrees; a settle request that waited
for the save's end is then served (R167, R168, R181). The check during a save, and the flaws of an item: log entry 17. The
order of the refusals of PROTECT and UNPROTECT: log entry 39. STORE_INVALID before the latch: log entry 42. An item programmed
at the read-back is an event that cannot occur: log entry 2. -/
def Obligations.StoreWordAndSavesAreWritten : Prop :=
  (∀ (s : State) (groups : Nat), s.takes = true →
    let m := s.live.management
    let parked := (presented s.active s.live.slots 15).isTrue = true ∧ (presented s.active s.live.slots 14).isFalse = true
    let begun := fun c : Completion =>
      { s with live := { s.live with management := { m with inProgress := some c } } }
    let named := BitVec.ofNat 4 groups
    exec (.protect groups) s = .next (resetRange (
      if 15 < groups then answer 0x28 4 [] s
      else if m.saving.isSome then answer 0x28 10 [] s
      else begun (.protect (m.protectSet ||| named)))) ∧
    exec (.unprotect groups) s = .next (resetRange (
      if 15 < groups then answer 0x29 4 [] s
      else if m.saving.isSome then answer 0x29 10 [] s
      else if ¬parked then answer 0x29 6 [] s
      else begun (.unprotect (m.protectSet &&& ~~~named)))) ∧
    exec .save s = .next (resetRange (
      if m.saving.isSome then answer 0x26 10 [] s
      else answer 0x26 1 [] { s with
        store := { s.store with check := none }
        live := { s.live with management := { m with saving := some 0 } } }))) ∧
  (∀ s : State, s.held = false →
    let m := s.live.management
    let written := fun set : BitVec 4 =>
      { s with
        store := { s.store with protectSet := set }
        live := { s.live with management := { m with inProgress := none, protectSet := set } } }
    (∀ set, m.inProgress = some (.protect set) →
      exec .protectWriteDone s = .next (answer 0x28 0 [byte set.toNat] (written set))) ∧
    (∀ set, m.inProgress = some (.unprotect set) →
      exec .protectWriteDone s = .next (answer 0x29 0 [byte set.toNat] (written set))) ∧
    (∀ (item : Nat) (flaws : List Host.Cell), m.saving = some item →
      let on : Live := { s.live with management := { m with saving := some (item + 1) } }
      (item < 20 → bankWf s.store.image = true → (flaws.map (·.1)).Nodup →
        ∃ b : Bank,
          exec (.savePageProgrammed flaws) s = .next { s with live := on, store := { s.store with image := b } } ∧
          ∀ a : Nat, a < 2560 → readByte b a = if a / 128 = item
            then ((flaws.find? fun c => c.1 == a).map (·.2)).getD (readByte s.active a)
            else readByte s.store.image a) ∧
      (item = 20 → flaws = [] →
        exec (.savePageProgrammed flaws) s =
          .next { s with live := on, store := { s.store with check := some (bankCheck s.active) } }) ∧
      (item = 20 → ∀ v0 v1 : Byte,
        (flaws.find? fun c => c.1 == 0) = some (0, v0) → (flaws.find? fun c => c.1 == 1) = some (1, v1) →
        exec (.savePageProgrammed flaws) s =
          .next { s with live := on, store := { s.store with check := some (v0.toNat + 256 * v1.toNat) } }) ∧
      (item = 20 → ∀ v0 : Byte,
        (flaws.find? fun c => c.1 == 0) = some (0, v0) → (flaws.find? fun c => c.1 == 1) = none →
        let sum := bankCheck s.active
        exec (.savePageProgrammed flaws) s =
          .next { s with live := on, store := { s.store with check := some (v0.toNat + 256 * (sum / 256)) } }) ∧
      (item = 20 → ∀ v1 : Byte,
        (flaws.find? fun c => c.1 == 0) = none → (flaws.find? fun c => c.1 == 1) = some (1, v1) →
        let sum := bankCheck s.active
        exec (.savePageProgrammed flaws) s =
          .next { s with live := on, store := { s.store with check := some (sum % 256 + 256 * v1.toNat) } }) ∧
      (item = 21 → exec (.savePageProgrammed flaws) s = .next s)) ∧
    (m.saving = some 21 →
      let agrees := fun p : Nat => ∀ k : Nat, k < 128 →
        readByte s.store.image (128 * p + k) = readByte s.active (128 * p + k)
      let ended := fun bad : Bool =>
        { s.live with management := { m with saving := none, storeInvalid := bad } }
      let served := fun l : Live => settleCheck (if l.part.settleRequest then enterSettling s.active l else l)
      let after := fun l : Live => Host.Outcome.next { s with live := served l }
      ((∀ p, p < 20 → agrees p) → s.store.check = some (bankCheck s.active) →
        exec .saveComplete s = after (latch kSaveDone (bankCheck s.active) (ended false))) ∧
      (∀ p, p < 20 → ¬agrees p → (∀ q, q < p → agrees q) →
        exec .saveComplete s = after (latch kSaveFailed p (ended true))) ∧
      ((∀ p, p < 20 → agrees p) → s.store.check ≠ some (bankCheck s.active) →
        exec .saveComplete s = after (latch kSaveFailed 20 (ended true)))))

/-! ### Events, counters and status frames (chapter 10) -/

/-- A latch takes its newest parameter; newly set and unmasked it asks for a STATUS_E, which is placed, or owed while the
spacing hold runs or the part is in WATCH. CLEAR_EVENTS, SET_EVENT_MASK and FORCE_EVENT act on kinds that exist;
READ_EVENTS, READ_COUNTERS and CLEAR_COUNTERS report and clear (R174, R175, R178). The report of an address that no entry
holds: log entry 19. -/
def Obligations.EventAndCounterRequestsFollowTheirRules : Prop :=
  (∀ (k : Fin 22) (n : Nat) (l : Live),
    let e : Events := { l.events with latched := l.events.latched.set k (some n) }
    let set : Live := { l with events := e }
    let p : Place := Place.put (statusE set) (l.port.places.get 2)
    latch k n l =
      if l.events.latched.get k ≠ none ∨ l.events.mask.getLsbD k.val = true then set
      else if l.part.state = .watch ∨ l.events.spacingHold ≠ none then { set with events := { e with owed := true } }
      else
        { set with
          events := { e with owed := false, spacingHold := some (l.now + 100) }
          port := { l.port with places := l.port.places.set 2 p } }) ∧
  (∀ s : State, s.takes = true →
    let l := s.live
    (∀ kinds : BitVec 32,
      (kinds.toNat < 2 ^ 22 →
        (∃ v : Vector (Option Nat) 22,
          exec (.clearEvents kinds) s = .next (resetRange (answer 0x41 0 []
            { s with live := { l with events := { l.events with latched := v } } })) ∧
          ∀ k : Fin 22, v.get k = if kinds.getLsbD k.val then none else l.events.latched.get k) ∧
        (∃ m : BitVec 22,
          exec (.setEventMask kinds) s = .next (resetRange (answer 0x42 0 []
            { s with live := { l with events := { l.events with mask := m } } })) ∧ m.toNat = kinds.toNat)) ∧
      (2 ^ 22 ≤ kinds.toNat →
        exec (.clearEvents kinds) s = .next (resetRange (answer 0x41 4 [] s)) ∧
        exec (.setEventMask kinds) s = .next (resetRange (answer 0x42 4 [] s)))) ∧
    (∀ k : Fin 22,
      let parameter := (l.events.latched.get k).getD 0
      exec (.forceEvent k.val) s = .next (resetRange (answer 0x43 0 [] { s with live := latch k 0 l })) ∧
      exec (.readEvents k.val 0) s =
        .next (answer 0x40 0 (bytesLE l.events.latchedSet 3 ++ bytesLE (presentSet l) 2) s) ∧
      (parameter < 65536 →
        exec (.readEvents k.val 1) s =
          .next (answer 0x40 0 (bytesLE l.events.mask.toNat 3 ++ bytes16 parameter) s))) ∧
    (∀ k part : Nat, (21 < k → exec (.forceEvent k) s = .next (resetRange (answer 0x43 4 [] s))) ∧
      (21 < k ∨ 1 < part → exec (.readEvents k part) s = .next (answer 0x40 4 [] s))) ∧
    (∀ n : Fin 96,
      let c := l.classifier.counts.get n
      exec (.readCounters 0 n.val 0) s = .next (answer 0x48 0 (bytes16 c.hit ++ bytes16 c.short ++ bytes16 c.na) s)) ∧
    (∀ n : Fin 32,
      let r := l.slots.get n
      exec (.readCounters 1 n.val 0) s = .next (answer 0x48 0 [byte r.clampCount, byte r.outranked] s)) ∧
    (∀ address : Nat, 1 ≤ address → address ≤ 16 →
      exec (.readCounters 2 address 0) s = .next (answer 0x48 0 (match l.link.nodeAt address with
        | some n => [byte n.total, byte n.consecutive]
        | none => [0xFF, 0xFF]) s)) ∧
    exec (.readCounters 3 0 0) s =
      .next (answer 0x48 0 (bytes16 l.classifier.unclaimed ++ bytes16 l.port.rxDropped) s) ∧
    exec (.readCounters 3 0 1) s =
      .next (answer 0x48 0 (bytes16 l.port.txErrors ++ [byte l.port.rxErrors, byte l.port.state.code]) s) ∧
    (∀ group index part : Nat,
      3 < group ∨ (group = 0 ∧ 95 < index) ∨ (group = 1 ∧ 31 < index) ∨ (group = 2 ∧ (index = 0 ∨ 16 < index)) ∨
        (group = 3 ∧ index ≠ 0) ∨ 1 < part →
      exec (.readCounters group index part) s = .next (answer 0x48 4 [] s)) ∧
    ∃ (counts : Vector RuleCounts 96) (slots : Vector Slot 32),
      exec .clearCounters s = .next (resetRange (answer 0x49 0 [] { s with live :=
        { l with
          classifier := { l.classifier with counts := counts, unclaimed := 0 }
          port := { l.port with rxDropped := 0 }
          slots := slots
          link := { l.link with directory := l.link.directory.map fun n => { n with total := 0 } } } })) ∧
      (∀ n : Fin 96, counts.get n = { hit := 0, short := 0, na := 0 }) ∧
      ∀ n : Fin 32, slots.get n = { l.slots.get n with clampCount := 0, outranked := 0 })

/-- At the status timer's expiry STATUS_A, STATUS_E and one STATUS_Z of each planned zone take their places, the spacing
hold is set and the timer starts again; at the spacing hold's expiry an owed STATUS_E is placed, but none in WATCH (R175,
R177). The fields of the three frames stand at their bits (R186); committed above 2047 has no value there (log entry 33). The
clock at an expiry: log entry 2. -/
def Obligations.StatusFramesAreLaidOutAndPlaced : Prop :=
  (∀ (s : State) (e : Nat), s.held = false →
     let l : Live := { s.live with now := max s.live.now e }
     let old := s.live.port.places
     let v := s.live.events
     (v.statusTimer = some e →
       ∃ places : Vector Place 7,
         exec .statusTimerExpiry s = .next { s with live := { l with
           port := { l.port with places := places }
           events := { v with owed := false, spacingHold := some (l.now + 100),
                              statusTimer := some (l.now + statusPeriod s.active) } } } ∧
         places.get 0 = old.get 0 ∧ places.get 1 = Place.put (statusA l) (old.get 1) ∧
         places.get 2 = Place.put (statusE l) (old.get 2) ∧
         ∀ z : Fin 4, places.get (statusZPlace z) =
           if (l.planner.zones.get z).planned then Place.put (statusZ z l) (old.get (statusZPlace z))
           else old.get (statusZPlace z)) ∧
     (v.spacingHold = some e →
       let clear : Live := { l with events := { v with spacingHold := none } }
       let placed : Live :=
         { l with
           events := { v with owed := false, spacingHold := some (l.now + 100) }
           port := { l.port with places := old.set 2 (Place.put (statusE l) (old.get 2)) } }
       exec .spacingHoldExpiry s =
         .next { s with live := if v.owed = true ∧ s.live.part.state ≠ .watch then placed else clear })) ∧
  (∀ (l : Live) (z : Fin 4),
    let field := fun (data : List Byte) (first width : Nat) =>
      (List.range width).map fun i => (byteAt data ((first + i) / 8)).getLsbD ((first + i) % 8)
    let binary := fun (n width : Nat) => (List.range width).map fun i => n.testBit i
    let a := (statusA l).data
    let mode := match l.air.mode with
      | .fresh => 0
      | .shield => 1
      | .closed => 2
      | .purge => 3
    let reason := match l.air.reason with
      | none => 0
      | some .haze => 1
      | some .unknown => 2
      | some .manual => 3
      | some .start => 4
    let state := match l.part.state with
      | .starting => 0
      | .run => 1
      | .settling => 2
      | .watch => 3
      | .waking => 4
    (statusA l).ident = 0x5E0 + l.port.unit.toNat ∧ a.length = 8 ∧ field a 0 3 = binary state 3 ∧
    field a 3 1 = [l.planner.defrost] ∧ field a 4 1 = [decide (l.air.boost ≠ .off)] ∧ field a 5 2 = binary mode 2 ∧
    field a 7 3 = binary reason 3 ∧
    field a 10 10 = binary (l.air.index.getD 1023) 10 ∧ field a 20 10 = binary (l.air.intake + l.air.filter) 10 ∧
    field a 30 11 = binary l.budget.avail 11 ∧
    (l.budget.committed < 2048 → field a 41 11 = binary l.budget.committed 11) ∧ field a 52 12 = binary 0 12 ∧
    (let e := (statusE l).data
     let present := [decide (l.air.index = none), l.air.defogLimited, l.air.cabIngress,
       l.planner.zones.toList.any (·.spanLow), l.budget.capped.toList.any id, decide (l.link.state = .failed),
       decide (l.port.state = .offline), l.management.storeInvalid, l.link.directory.any fun n => n.state == .lost]
     (statusE l).ident = 0x5F0 + l.port.unit.toNat ∧ e.length = 5 ∧
     field e 0 22 = (List.finRange 22).map (fun k => (l.events.latched.get k).isSome) ∧ field e 22 2 = binary 0 2 ∧
     field e 24 9 = present ∧ field e 33 7 = binary 0 7) ∧
    (let d := (statusZ z l).data
     let zone := l.planner.zones.get z
     (statusZ z l).ident = 0x600 + 4 * l.port.unit.toNat + z.val ∧ d.length = 7 ∧
     field d 0 16 = binary (zone.demand % 65536).toNat 16 ∧ field d 16 10 = binary zone.blend 10 ∧
     field d 26 10 = binary zone.level 10 ∧ field d 36 10 = binary zone.outlet 10 ∧
     field d 46 4 = [zone.openLoop, zone.spanLow, l.budget.capped.get z, zone.defrostFlag] ∧
     field d 50 6 = binary 0 6))

/-! ### Part state (chapter 11) -/

/-- SLEEP in RUN and the ignition timer's expiry lead to SETTLING, or set the settle request while a save runs; SLEEP in
SETTLING changes nothing and is refused SEQUENCE in STARTING and WAKING. At the entry to SETTLING the ignition, plan,
rollcall and probe timers stop, waiting probes and rounds are removed, a series ends unless its round or BIND is still to be
carried out, and then the sequencer settles. SETTLING ends in WATCH when the Move Queue and the In-Flight set are empty and no
save runs (R134, R182). RESTART starts its 20 ms (R171). The clock at an expiry is log entry 2, the entry to SETTLING log
entries 13 and 28, that the test for its end is the last thing an event does log entry 10. -/
def Obligations.SleepIgnitionAndRestartLeadToTheirStates : Prop :=
  (∀ (img : Bank) (l : Live),
    let asked : Live := { l with part := { l.part with settleRequest := true } }
    askSettle img l = if l.management.saving = none then enterSettling img l else asked) ∧
  (∀ (img : Bank) (l : Live),
    let t := enterSettling img l
    let k := l.link
    let part := { l.part with state := .settling, ignitionTimer := none, ignitionOff := false, settleRequest := false }
    let goesOn := (∃ q ∈ k.requests, isBind q = true ∧ q.owner ≠ .probe) ∨
      k.onLink.any (fun q => q.owner == .rollcall) = true
    let begun : Live := { l with
      part := part
      planner := { l.planner with timer := none }
      link := { k with
        rollcallTimer := none, probeTimer := none, series := if goesOn then k.series else none
        requests := k.requests.filter fun q => !isProbe q && !isRound q } }
    t = sequencerSettles img begun ∧ t.part = part ∧
    t.planner = { l.planner with timer := none } ∧ t.link.rollcallTimer = none ∧ t.link.probeTimer = none ∧
    (∀ q ∈ t.link.requests, q.owner ≠ .probe ∧ ∀ reset, q.command ≠ .rollcall reset) ∧ t.slots = l.slots ∧
    t.now = l.now) ∧
  (∀ l : Live,
    let ended := l.part.state = .settling ∧ l.sequencer.queue = [] ∧ l.sequencer.inFlight = [] ∧ l.management.saving = none
    (ended → settleCheck l = enterWatch l) ∧ (¬ended → settleCheck l = l)) ∧
  (∀ (s : State) (e : Nat), s.held = false → s.live.part.ignitionTimer = some e →
    let l : Live := { s.live with now := max s.live.now e, part := { s.live.part with ignitionTimer := none } }
    exec .ignitionTimerExpiry s = .next { s with live := settleCheck (askSettle s.active l) }) ∧
  (∀ s : State, s.takes = true →
    let answered := (answer 0x50 0 [] s).live
    (s.live.part.state = .run → exec .sleep s =
      .next (resetRange { s with live := settleCheck (askSettle s.active answered) })) ∧
    (s.live.part.state = .settling → exec .sleep s = .next (resetRange (answer 0x50 0 [] s))) ∧
    (s.live.part.state = .starting ∨ s.live.part.state = .waking →
      exec .sleep s = .next (resetRange (answer 0x50 9 [] s))) ∧
    (let timer := s.live.part.restartTimer.getD (s.live.now + 20)
     let l : Live := { s.live with part := { s.live.part with restartTimer := some timer } }
     exec .restart s = .next (resetRange (answer 0x51 0 [] { s with live := l }))))

/-- The entries of the part state and the notices of IGNITION (R16, R73, R94, R134, R135, R156, R181 to R184). In RUN the
notice cancels the ignition timer or starts it at the change, in SETTLING it returns the part to RUN; one that finds the slot
true as before does so too, which is the model's choice (log entry 34). RUN starts the plan, rollcall and probe timers, tests
the ignition and has the air source controller issue; WATCH quiets the blocks, with a recovery attempt cut off uncounted (log
entry 35), and the series of a round or BIND that is still on the link becomes the left-over one, which is the model's reading
(log entry 28); WAKING wakes classifier, status timer, an owed STATUS_E and the link. SETTLING empties the queue and commands every
blower and stage off: the test for shedding before the offer, what the removals release and what is done with an EXCLUDED
node's role are log entry 13, the order of the off SETs log entry 45. -/
def Obligations.EntriesToThePartStatesActOnTheBlocks : Prop :=
  (∀ (img : Bank) (l : Live),
    let on := (presented img l.slots ignitionSlot).isTrue = true
    let p := l.part
    let later := some (l.now + watchDelay img)
    let started : Part := { p with ignitionTimer := later, ignitionOff := true }
    (p.state = .run → notify img ignitionSlot l = { l with part :=
      if on then { p with ignitionTimer := none, ignitionOff := false, settleRequest := false }
      else if p.ignitionOff then p else started }) ∧
    (p.state = .settling → notify img ignitionSlot l = if on then enterRun img l else l) ∧
    (p.state ≠ .run → p.state ≠ .settling → notify img ignitionSlot l = l) ∧
    enterRun img l = issueTargets img { l with
      part := { p with state := .run, ignitionTimer := if on then none else later, ignitionOff := decide (¬on) }
      planner := { l.planner with timer := some (l.now + planPeriod img) }
      link := { l.link with
        rollcallTimer := some (l.now + 2000), probeTimer := some (l.now + 1000), wake := .none } }) ∧
  (∀ l : Live,
    let u := l.sequencer
    let resting : Actuator → Actuator := fun a => { a with pendingTarget := none }
    let parked : Vector Actuator 20 := match u.suspended with
      | none => u.actuators.map resting
      | some m => (u.actuators.set m.role { u.actuators.get m.role with state := .idle, position := m.position }).map resting
    let k := l.link
    let scanner := l.classifier
    let idle : Live := { l with
      part := { l.part with state := .watch }
      port := { l.port with rxQueue := [] }
      classifier := { scanner with state := if scanner.state = .idle then .stopped else scanner.state }
      planner := { l.planner with
        previousDmax := none, stageTargets := Vector.replicate 4 false
        zones := l.planner.zones.map fun z => { z with
          planned := false, integrator := 0, openLoop := false, spanLow := false, defrostFlag := false } }
      events := { l.events with statusTimer := none }
      sequencer := { u with actuators := parked, suspended := none } }
    let ended := if k.state = .recovering then cancelAccess 12 idle else idle
    let series := if k.onLink.any (fun q => q.owner == .rollcall) then k.series else none
    enterWatch l = { ended with link := { ended.link with
      requests := ended.link.requests.filter fun q => q.owner == .window
      rollcallTimer := none, probeTimer := none, attempting := false, delayTimer := none, retryTimer := none
      wake := .none, leftOver := series, series := none } }) ∧
  (∀ (img : Bank) (l : Live),
    let scanner := l.classifier
    let woken : Live := { l with
      part := { l.part with state := .waking }
      classifier := { scanner with state := if scanner.state = .stopped then .idle else scanner.state }
      events := { l.events with statusTimer := some (l.now + statusPeriod img) } }
    let m := if l.events.owed = true ∧ l.events.spacingHold = none then placeStatusE woken else woken
    let bound := (List.range 17).filter fun a => l.link.directory.any fun n => n.address == a && n.state == .bound
    let probing : Live := { m with link := { m.link with wake := .probing } }
    enterWaking img l = match l.link.state with
      | .running => afterProbes (bound.foldl (fun x a => placeProbe a x) probing)
      | .recovering => { m with link := { m.link with attempting := true, wake := .awaitLink } }
      | .failed => { m with link := { m.link with
          attempting := true, retryTimer := some (l.now + 5000), wake := .awaitLink } }) ∧
  (∀ l : Live,
    let outstanding := (∃ q ∈ l.link.requests, q.owner = .probe) ∨ ∃ q, l.link.onLink = some q ∧ q.owner = .probe
    let rolling : Live := { l with link := { l.link with wake := .rolling } }
    let begun : Link :=
      { l.link with wake := .rolling, series := some { winner := none, failedBinds := [] }, resetOwed := false }
    let series := if l.link.series ≠ none then rolling
      else placeRequest .rollcall 0 (.rollcall l.link.resetOwed) .rollcall { l with link := begun }
    afterProbes l = if l.part.state = .waking ∧ l.link.wake = .probing ∧ ¬outstanding then series else l) ∧
  (∀ (img : Bank) (l : Live),
    let u := l.sequencer
    let stands := fun r : Role => u.queue.any fun e => e.role == r
    let moves := fun r : Role => u.queue.any fun e => e.role == r && e.kind != .set
    let state := fun r : Role =>
      if stands r ∧ (u.actuators.get r).state = .queued then .idle else (u.actuators.get r).state
    let ordered := fun r : Role =>
      12 ≤ r.val ∧ itemOf l r = none ∧ (state r = .idle ∨ state r = .uncertain ∨ state r = .faulted)
    let hold := fun r : Role => match (u.actuators.get r).retryTime with
      | some e => if l.now < e then some e else none
      | none => none
    let off := fun r : Role =>
      ({ role := r, kind := .set, level := 0, urgent := true, holdOff := hold r, shed := false } : QueueEntry)
    let holds := u.queue.any fun e => e.kind != .set && (l.budget.consumers.get e.role).commitment != 0
    let sheds := u.queue.any fun e => e.shed
    let shed := l.budget.shedList.filter fun x => !(u.queue.any fun e => e.shed && e.role == x.role)
    ∃ (actuators : Vector Actuator 20) (consumers : Vector Consumer 20),
      (∀ r : Role,
        let a := u.actuators.get r
        let pending : Option Target := if 12 ≤ r.val ∧ itemOf l r ≠ none then some { level := 0, urgent := true }
          else if stands r then none else a.pendingTarget
        let now := if ordered r ∧ state r = .idle then .queued else state r
        actuators.get r = { a with pendingTarget := pending, state := now } ∧
        let c := l.budget.consumers.get r
        consumers.get r = if moves r then { c with commitment := 0 } else c) ∧
      let m : Live := { l with
        sequencer := { u with
          actuators := actuators, queue := ((List.finRange 20).filter fun r => decide (ordered r)).map off
          suspended := u.suspended.filter fun x => !decide (ordered x.role) }
        budget := { l.budget with consumers := consumers, shedList := shed } }
      let tested := if sheds = true then testShed img m else m
      sequencerSettles img l = if holds = true then roomNotice img tested else offer img tested)

/-! ### Invariants of every step -/

/-- The banks and the store's image keep their canonical form, the load pointer stays in its page and the rule-range sequence
within its rules (R160 to R162, R166). -/
def Obligations.EveryStepKeepsTheImagesInForm : Prop :=
  ∀ s t : State, s.imagesWf = true → step s = .next t → t.imagesWf = true

/-- The receive queue keeps its 16 places, every counter of the port, the classifier and the slots stops at its maximum,
and a slot's age runs exactly where the slot is not NEVER (R3, R4, R10, R21, R29, R35, R38, R39). -/
def Obligations.EveryStepKeepsTheCountersInForm : Prop :=
  ∀ s t : State, s.countersWf = true → step s = .next t → t.countersWf = true

/-- The damper targets are those that the source mode gives under the ACTIVE image, through every command (R54) and every
activation; that an ACTIVATE works them out again under the new image in every mode is the model's reading, log entry
16. -/
def Obligations.EveryStepKeepsTheTargetsOfTheMode : Prop :=
  ∀ s t : State, s.airWf = true → step s = .next t → t.airWf = true

/-- The Move Queue keeps its order, every URGENT entry ahead of every NORMAL one, and an actuator's work stands in at most one
of the Move Queue, the In-Flight set and the suspended place, and once; so the queue and the set never hold more than 20
together (R117). -/
def Obligations.EveryStepKeepsTheMoveQueueInOrder : Prop :=
  (∀ s t : State, s.queueWf = true → step s = .next t → t.queueWf = true) ∧
  (∀ s : State, s.queueWf = true → s.live.sequencer.queue.length + s.live.sequencer.inFlight.length ≤ 20)

/-- The directory keeps its form through every command: serials other than 0 and all ones, no two alike, addresses from 1 to
16, no two alike, a kind of one byte, and the counts in their ranges; so it never holds more than 16 entries (R143, R146,
R147). -/
def Obligations.EveryStepKeepsTheDirectoryInForm : Prop :=
  (∀ s t : State, s.directoryWf = true → step s = .next t → t.directoryWf = true) ∧
  (∀ s : State, s.directoryWf = true → s.live.link.directory.length ≤ 16)

/-- ACTIVE changes only by a start or an ACTIVATE, PENDING only by a start, LOAD_DATA, COPY_ACTIVE or CLEAR_MARKED, and the
store's image only by a save; a frame changes them only where it carries such a request (R161). -/
def Obligations.BanksChangeOnlyByTheirCommands : Prop :=
  ∀ (c : Instr) (s t : State), exec c s = .next t →
    let carried := match c with
      | .frameArrival f => decodeRequest (f.data.take (min f.dlc 8))
      | _ => none
    (t.active ≠ s.active → startCause c s ≠ none ∨ (∃ n, c = .activate n) ∨ (∃ n, carried = some (.activate n))) ∧
    (t.loading ≠ s.loading → startCause c s ≠ none ∨ (∃ n d, c = .loadData n d) ∨ c = .copyActive ∨ c = .clearMarked ∨
      (∃ n d, carried = some (.loadData n d)) ∨ carried = some .copyActive ∨ carried = some .clearMarked) ∧
    (t.store.image ≠ s.store.image → ∃ flaws, c = .savePageProgrammed flaws)

/-- The state after reset meets the invariants: the banks, the counters, the targets of the mode, the Move
Queue and the node directory are in form. -/
def Obligations.ResetMeetsTheInvariants : Prop :=
  State.reset.imagesWf = true ∧ State.reset.countersWf = true ∧ State.reset.airWf = true ∧
  State.reset.queueWf = true ∧ State.reset.directoryWf = true
end

