-- ==== Sys2Proof/Laws/State.lean ====
section
/-! SUPPORT. What each update of the state leaves and what it changes: one lemma a field, true by definition. -/

namespace Sys2Proof.Machine

/-! ### State updates -/

@[simp] theorem State.onLive_pending (f : Live → Live) (s : State) : (s.onLive f).pending = s.pending := rfl
@[simp] theorem State.onLive_straps (f : Live → Live) (s : State) : (s.onLive f).straps = s.straps := rfl
@[simp] theorem State.onLive_active (f : Live → Live) (s : State) : (s.onLive f).active = s.active := rfl
@[simp] theorem State.onLive_loading (f : Live → Live) (s : State) : (s.onLive f).loading = s.loading := rfl
@[simp] theorem State.onLive_store (f : Live → Live) (s : State) : (s.onLive f).store = s.store := rfl
@[simp] theorem State.onLive_cuts (f : Live → Live) (s : State) : (s.onLive f).cuts = s.cuts := rfl
@[simp] theorem State.onLive_live (f : Live → Live) (s : State) : (s.onLive f).live = f s.live := rfl
@[simp] theorem State.tick_pending (s : State) : s.tick.pending = s.pending := rfl
@[simp] theorem State.tick_straps (s : State) : s.tick.straps = s.straps := rfl
@[simp] theorem State.tick_active (s : State) : s.tick.active = s.active := rfl
@[simp] theorem State.tick_loading (s : State) : s.tick.loading = s.loading := rfl
@[simp] theorem State.tick_store (s : State) : s.tick.store = s.store := rfl
@[simp] theorem State.tick_cuts (s : State) : s.tick.cuts = s.cuts := rfl
@[simp] theorem State.tick_live (s : State) : s.tick.live = { s.live with now := s.live.now + 1 } := rfl
@[simp] theorem answer_pending (c : Byte) (r : Nat) (d : List Byte) (s : State) : (answer c r d s).pending = s.pending := rfl
@[simp] theorem answer_straps (c : Byte) (r : Nat) (d : List Byte) (s : State) : (answer c r d s).straps = s.straps := rfl
@[simp] theorem answer_active (c : Byte) (r : Nat) (d : List Byte) (s : State) : (answer c r d s).active = s.active := rfl
@[simp] theorem answer_loading (c : Byte) (r : Nat) (d : List Byte) (s : State) : (answer c r d s).loading = s.loading := rfl
@[simp] theorem answer_store (c : Byte) (r : Nat) (d : List Byte) (s : State) : (answer c r d s).store = s.store := rfl
@[simp] theorem answer_cuts (c : Byte) (r : Nat) (d : List Byte) (s : State) : (answer c r d s).cuts = s.cuts := rfl
@[simp] theorem answer_live (c : Byte) (r : Nat) (d : List Byte) (s : State) : (answer c r d s).live = reply c r d s.live := rfl
@[simp] theorem resetRange_pending (s : State) : (resetRange s).pending = s.pending := rfl
@[simp] theorem resetRange_straps (s : State) : (resetRange s).straps = s.straps := rfl
@[simp] theorem resetRange_active (s : State) : (resetRange s).active = s.active := rfl
@[simp] theorem resetRange_loading (s : State) : (resetRange s).loading = s.loading := rfl
@[simp] theorem resetRange_store (s : State) : (resetRange s).store = s.store := rfl
@[simp] theorem resetRange_cuts (s : State) : (resetRange s).cuts = s.cuts := rfl
@[simp] theorem resetRange_live (s : State) : (resetRange s).live = onManagement (fun m => { m with ruleRange := .idle }) s.live := rfl

/-! ### `Live.advanceTo` -/

@[simp] theorem Live.advanceTo_now (t : Nat) (l : Live) : (l.advanceTo t).now = max l.now t := rfl
@[simp] theorem Live.advanceTo_port (t : Nat) (l : Live) : (l.advanceTo t).port = l.port := rfl
@[simp] theorem Live.advanceTo_classifier (t : Nat) (l : Live) : (l.advanceTo t).classifier = l.classifier := rfl
@[simp] theorem Live.advanceTo_slots (t : Nat) (l : Live) : (l.advanceTo t).slots = l.slots := rfl
@[simp] theorem Live.advanceTo_air (t : Nat) (l : Live) : (l.advanceTo t).air = l.air := rfl
@[simp] theorem Live.advanceTo_planner (t : Nat) (l : Live) : (l.advanceTo t).planner = l.planner := rfl
@[simp] theorem Live.advanceTo_budget (t : Nat) (l : Live) : (l.advanceTo t).budget = l.budget := rfl
@[simp] theorem Live.advanceTo_sequencer (t : Nat) (l : Live) : (l.advanceTo t).sequencer = l.sequencer := rfl
@[simp] theorem Live.advanceTo_link (t : Nat) (l : Live) : (l.advanceTo t).link = l.link := rfl
@[simp] theorem Live.advanceTo_management (t : Nat) (l : Live) : (l.advanceTo t).management = l.management := rfl
@[simp] theorem Live.advanceTo_events (t : Nat) (l : Live) : (l.advanceTo t).events = l.events := rfl
@[simp] theorem Live.advanceTo_part (t : Nat) (l : Live) : (l.advanceTo t).part = l.part := rfl

/-! ### `placeFrame` -/

@[simp] theorem placeFrame_now (i : Fin 7) (f : TxFrame) (l : Live) : (placeFrame i f l).now = l.now := rfl
@[simp] theorem placeFrame_port (i : Fin 7) (f : TxFrame) (l : Live) : (placeFrame i f l).port = l.port.onPlace i (Place.put f) := rfl
@[simp] theorem placeFrame_classifier (i : Fin 7) (f : TxFrame) (l : Live) : (placeFrame i f l).classifier = l.classifier := rfl
@[simp] theorem placeFrame_slots (i : Fin 7) (f : TxFrame) (l : Live) : (placeFrame i f l).slots = l.slots := rfl
@[simp] theorem placeFrame_air (i : Fin 7) (f : TxFrame) (l : Live) : (placeFrame i f l).air = l.air := rfl
@[simp] theorem placeFrame_planner (i : Fin 7) (f : TxFrame) (l : Live) : (placeFrame i f l).planner = l.planner := rfl
@[simp] theorem placeFrame_budget (i : Fin 7) (f : TxFrame) (l : Live) : (placeFrame i f l).budget = l.budget := rfl
@[simp] theorem placeFrame_sequencer (i : Fin 7) (f : TxFrame) (l : Live) : (placeFrame i f l).sequencer = l.sequencer := rfl
@[simp] theorem placeFrame_link (i : Fin 7) (f : TxFrame) (l : Live) : (placeFrame i f l).link = l.link := rfl
@[simp] theorem placeFrame_management (i : Fin 7) (f : TxFrame) (l : Live) : (placeFrame i f l).management = l.management := rfl
@[simp] theorem placeFrame_events (i : Fin 7) (f : TxFrame) (l : Live) : (placeFrame i f l).events = l.events := rfl
@[simp] theorem placeFrame_part (i : Fin 7) (f : TxFrame) (l : Live) : (placeFrame i f l).part = l.part := rfl

/-! ### `reply` -/

@[simp] theorem reply_now (c : Byte) (r : Nat) (d : List Byte) (l : Live) : (reply c r d l).now = l.now := rfl
@[simp] theorem reply_port (c : Byte) (r : Nat) (d : List Byte) (l : Live) : (reply c r d l).port = l.port.onPlace replyPlace (Place.put { ident := replyIdent l.port.unit, data := replyData c r d }) := rfl
@[simp] theorem reply_classifier (c : Byte) (r : Nat) (d : List Byte) (l : Live) : (reply c r d l).classifier = l.classifier := rfl
@[simp] theorem reply_slots (c : Byte) (r : Nat) (d : List Byte) (l : Live) : (reply c r d l).slots = l.slots := rfl
@[simp] theorem reply_air (c : Byte) (r : Nat) (d : List Byte) (l : Live) : (reply c r d l).air = l.air := rfl
@[simp] theorem reply_planner (c : Byte) (r : Nat) (d : List Byte) (l : Live) : (reply c r d l).planner = l.planner := rfl
@[simp] theorem reply_budget (c : Byte) (r : Nat) (d : List Byte) (l : Live) : (reply c r d l).budget = l.budget := rfl
@[simp] theorem reply_sequencer (c : Byte) (r : Nat) (d : List Byte) (l : Live) : (reply c r d l).sequencer = l.sequencer := rfl
@[simp] theorem reply_link (c : Byte) (r : Nat) (d : List Byte) (l : Live) : (reply c r d l).link = l.link := rfl
@[simp] theorem reply_management (c : Byte) (r : Nat) (d : List Byte) (l : Live) : (reply c r d l).management = l.management := rfl
@[simp] theorem reply_events (c : Byte) (r : Nat) (d : List Byte) (l : Live) : (reply c r d l).events = l.events := rfl
@[simp] theorem reply_part (c : Byte) (r : Nat) (d : List Byte) (l : Live) : (reply c r d l).part = l.part := rfl

/-! ### `onManagement` -/

@[simp] theorem onManagement_now (f : Management → Management) (l : Live) : (onManagement f l).now = l.now := rfl
@[simp] theorem onManagement_port (f : Management → Management) (l : Live) : (onManagement f l).port = l.port := rfl
@[simp] theorem onManagement_classifier (f : Management → Management) (l : Live) : (onManagement f l).classifier = l.classifier := rfl
@[simp] theorem onManagement_slots (f : Management → Management) (l : Live) : (onManagement f l).slots = l.slots := rfl
@[simp] theorem onManagement_air (f : Management → Management) (l : Live) : (onManagement f l).air = l.air := rfl
@[simp] theorem onManagement_planner (f : Management → Management) (l : Live) : (onManagement f l).planner = l.planner := rfl
@[simp] theorem onManagement_budget (f : Management → Management) (l : Live) : (onManagement f l).budget = l.budget := rfl
@[simp] theorem onManagement_sequencer (f : Management → Management) (l : Live) : (onManagement f l).sequencer = l.sequencer := rfl
@[simp] theorem onManagement_link (f : Management → Management) (l : Live) : (onManagement f l).link = l.link := rfl
@[simp] theorem onManagement_management (f : Management → Management) (l : Live) : (onManagement f l).management = f l.management := rfl
@[simp] theorem onManagement_events (f : Management → Management) (l : Live) : (onManagement f l).events = l.events := rfl
@[simp] theorem onManagement_part (f : Management → Management) (l : Live) : (onManagement f l).part = l.part := rfl

/-! ### `Live.onLinkBlock` -/

@[simp] theorem Live.onLinkBlock_now (f : Link → Link) (l : Live) : (l.onLinkBlock f).now = l.now := rfl
@[simp] theorem Live.onLinkBlock_port (f : Link → Link) (l : Live) : (l.onLinkBlock f).port = l.port := rfl
@[simp] theorem Live.onLinkBlock_classifier (f : Link → Link) (l : Live) : (l.onLinkBlock f).classifier = l.classifier := rfl
@[simp] theorem Live.onLinkBlock_slots (f : Link → Link) (l : Live) : (l.onLinkBlock f).slots = l.slots := rfl
@[simp] theorem Live.onLinkBlock_air (f : Link → Link) (l : Live) : (l.onLinkBlock f).air = l.air := rfl
@[simp] theorem Live.onLinkBlock_planner (f : Link → Link) (l : Live) : (l.onLinkBlock f).planner = l.planner := rfl
@[simp] theorem Live.onLinkBlock_budget (f : Link → Link) (l : Live) : (l.onLinkBlock f).budget = l.budget := rfl
@[simp] theorem Live.onLinkBlock_sequencer (f : Link → Link) (l : Live) : (l.onLinkBlock f).sequencer = l.sequencer := rfl
@[simp] theorem Live.onLinkBlock_link (f : Link → Link) (l : Live) : (l.onLinkBlock f).link = f l.link := rfl
@[simp] theorem Live.onLinkBlock_management (f : Link → Link) (l : Live) : (l.onLinkBlock f).management = l.management := rfl
@[simp] theorem Live.onLinkBlock_events (f : Link → Link) (l : Live) : (l.onLinkBlock f).events = l.events := rfl
@[simp] theorem Live.onLinkBlock_part (f : Link → Link) (l : Live) : (l.onLinkBlock f).part = l.part := rfl

/-! ### `onSlot` -/

@[simp] theorem onSlot_now (n : Fin 32) (f : Slot → Slot) (l : Live) : (onSlot n f l).now = l.now := rfl
@[simp] theorem onSlot_port (n : Fin 32) (f : Slot → Slot) (l : Live) : (onSlot n f l).port = l.port := rfl
@[simp] theorem onSlot_classifier (n : Fin 32) (f : Slot → Slot) (l : Live) : (onSlot n f l).classifier = l.classifier := rfl
@[simp] theorem onSlot_slots (n : Fin 32) (f : Slot → Slot) (l : Live) : (onSlot n f l).slots = updateAt l.slots n f := rfl
@[simp] theorem onSlot_air (n : Fin 32) (f : Slot → Slot) (l : Live) : (onSlot n f l).air = l.air := rfl
@[simp] theorem onSlot_planner (n : Fin 32) (f : Slot → Slot) (l : Live) : (onSlot n f l).planner = l.planner := rfl
@[simp] theorem onSlot_budget (n : Fin 32) (f : Slot → Slot) (l : Live) : (onSlot n f l).budget = l.budget := rfl
@[simp] theorem onSlot_sequencer (n : Fin 32) (f : Slot → Slot) (l : Live) : (onSlot n f l).sequencer = l.sequencer := rfl
@[simp] theorem onSlot_link (n : Fin 32) (f : Slot → Slot) (l : Live) : (onSlot n f l).link = l.link := rfl
@[simp] theorem onSlot_management (n : Fin 32) (f : Slot → Slot) (l : Live) : (onSlot n f l).management = l.management := rfl
@[simp] theorem onSlot_events (n : Fin 32) (f : Slot → Slot) (l : Live) : (onSlot n f l).events = l.events := rfl
@[simp] theorem onSlot_part (n : Fin 32) (f : Slot → Slot) (l : Live) : (onSlot n f l).part = l.part := rfl

/-! ### `onActuator` -/

@[simp] theorem onActuator_now (r : Role) (f : Actuator → Actuator) (l : Live) : (onActuator r f l).now = l.now := rfl
@[simp] theorem onActuator_port (r : Role) (f : Actuator → Actuator) (l : Live) : (onActuator r f l).port = l.port := rfl
@[simp] theorem onActuator_classifier (r : Role) (f : Actuator → Actuator) (l : Live) : (onActuator r f l).classifier = l.classifier := rfl
@[simp] theorem onActuator_slots (r : Role) (f : Actuator → Actuator) (l : Live) : (onActuator r f l).slots = l.slots := rfl
@[simp] theorem onActuator_air (r : Role) (f : Actuator → Actuator) (l : Live) : (onActuator r f l).air = l.air := rfl
@[simp] theorem onActuator_planner (r : Role) (f : Actuator → Actuator) (l : Live) : (onActuator r f l).planner = l.planner := rfl
@[simp] theorem onActuator_budget (r : Role) (f : Actuator → Actuator) (l : Live) : (onActuator r f l).budget = l.budget := rfl
@[simp] theorem onActuator_sequencer (r : Role) (f : Actuator → Actuator) (l : Live) : (onActuator r f l).sequencer = { l.sequencer with actuators := updateAt l.sequencer.actuators r f } := rfl
@[simp] theorem onActuator_link (r : Role) (f : Actuator → Actuator) (l : Live) : (onActuator r f l).link = l.link := rfl
@[simp] theorem onActuator_management (r : Role) (f : Actuator → Actuator) (l : Live) : (onActuator r f l).management = l.management := rfl
@[simp] theorem onActuator_events (r : Role) (f : Actuator → Actuator) (l : Live) : (onActuator r f l).events = l.events := rfl
@[simp] theorem onActuator_part (r : Role) (f : Actuator → Actuator) (l : Live) : (onActuator r f l).part = l.part := rfl

/-! ### `setQueue` -/

@[simp] theorem setQueue_now (q : List QueueEntry) (l : Live) : (setQueue q l).now = l.now := rfl
@[simp] theorem setQueue_port (q : List QueueEntry) (l : Live) : (setQueue q l).port = l.port := rfl
@[simp] theorem setQueue_classifier (q : List QueueEntry) (l : Live) : (setQueue q l).classifier = l.classifier := rfl
@[simp] theorem setQueue_slots (q : List QueueEntry) (l : Live) : (setQueue q l).slots = l.slots := rfl
@[simp] theorem setQueue_air (q : List QueueEntry) (l : Live) : (setQueue q l).air = l.air := rfl
@[simp] theorem setQueue_planner (q : List QueueEntry) (l : Live) : (setQueue q l).planner = l.planner := rfl
@[simp] theorem setQueue_budget (q : List QueueEntry) (l : Live) : (setQueue q l).budget = l.budget := rfl
@[simp] theorem setQueue_sequencer (q : List QueueEntry) (l : Live) : (setQueue q l).sequencer = { l.sequencer with queue := q } := rfl
@[simp] theorem setQueue_link (q : List QueueEntry) (l : Live) : (setQueue q l).link = l.link := rfl
@[simp] theorem setQueue_management (q : List QueueEntry) (l : Live) : (setQueue q l).management = l.management := rfl
@[simp] theorem setQueue_events (q : List QueueEntry) (l : Live) : (setQueue q l).events = l.events := rfl
@[simp] theorem setQueue_part (q : List QueueEntry) (l : Live) : (setQueue q l).part = l.part := rfl

/-! ### `setInFlight` -/

@[simp] theorem setInFlight_now (q : List Item) (l : Live) : (setInFlight q l).now = l.now := rfl
@[simp] theorem setInFlight_port (q : List Item) (l : Live) : (setInFlight q l).port = l.port := rfl
@[simp] theorem setInFlight_classifier (q : List Item) (l : Live) : (setInFlight q l).classifier = l.classifier := rfl
@[simp] theorem setInFlight_slots (q : List Item) (l : Live) : (setInFlight q l).slots = l.slots := rfl
@[simp] theorem setInFlight_air (q : List Item) (l : Live) : (setInFlight q l).air = l.air := rfl
@[simp] theorem setInFlight_planner (q : List Item) (l : Live) : (setInFlight q l).planner = l.planner := rfl
@[simp] theorem setInFlight_budget (q : List Item) (l : Live) : (setInFlight q l).budget = l.budget := rfl
@[simp] theorem setInFlight_sequencer (q : List Item) (l : Live) : (setInFlight q l).sequencer = { l.sequencer with inFlight := q } := rfl
@[simp] theorem setInFlight_link (q : List Item) (l : Live) : (setInFlight q l).link = l.link := rfl
@[simp] theorem setInFlight_management (q : List Item) (l : Live) : (setInFlight q l).management = l.management := rfl
@[simp] theorem setInFlight_events (q : List Item) (l : Live) : (setInFlight q l).events = l.events := rfl
@[simp] theorem setInFlight_part (q : List Item) (l : Live) : (setInFlight q l).part = l.part := rfl

/-! ### `setSuspended` -/

@[simp] theorem setSuspended_now (m : Option Suspended) (l : Live) : (setSuspended m l).now = l.now := rfl
@[simp] theorem setSuspended_port (m : Option Suspended) (l : Live) : (setSuspended m l).port = l.port := rfl
@[simp] theorem setSuspended_classifier (m : Option Suspended) (l : Live) : (setSuspended m l).classifier = l.classifier := rfl
@[simp] theorem setSuspended_slots (m : Option Suspended) (l : Live) : (setSuspended m l).slots = l.slots := rfl
@[simp] theorem setSuspended_air (m : Option Suspended) (l : Live) : (setSuspended m l).air = l.air := rfl
@[simp] theorem setSuspended_planner (m : Option Suspended) (l : Live) : (setSuspended m l).planner = l.planner := rfl
@[simp] theorem setSuspended_budget (m : Option Suspended) (l : Live) : (setSuspended m l).budget = l.budget := rfl
@[simp] theorem setSuspended_sequencer (m : Option Suspended) (l : Live) : (setSuspended m l).sequencer = { l.sequencer with suspended := m } := rfl
@[simp] theorem setSuspended_link (m : Option Suspended) (l : Live) : (setSuspended m l).link = l.link := rfl
@[simp] theorem setSuspended_management (m : Option Suspended) (l : Live) : (setSuspended m l).management = l.management := rfl
@[simp] theorem setSuspended_events (m : Option Suspended) (l : Live) : (setSuspended m l).events = l.events := rfl
@[simp] theorem setSuspended_part (m : Option Suspended) (l : Live) : (setSuspended m l).part = l.part := rfl

/-! ### `setArmed` -/

@[simp] theorem setArmed_now (b : Bool) (l : Live) : (setArmed b l).now = l.now := rfl
@[simp] theorem setArmed_port (b : Bool) (l : Live) : (setArmed b l).port = l.port := rfl
@[simp] theorem setArmed_classifier (b : Bool) (l : Live) : (setArmed b l).classifier = l.classifier := rfl
@[simp] theorem setArmed_slots (b : Bool) (l : Live) : (setArmed b l).slots = l.slots := rfl
@[simp] theorem setArmed_air (b : Bool) (l : Live) : (setArmed b l).air = l.air := rfl
@[simp] theorem setArmed_planner (b : Bool) (l : Live) : (setArmed b l).planner = l.planner := rfl
@[simp] theorem setArmed_budget (b : Bool) (l : Live) : (setArmed b l).budget = l.budget := rfl
@[simp] theorem setArmed_sequencer (b : Bool) (l : Live) : (setArmed b l).sequencer = { l.sequencer with armed := b } := rfl
@[simp] theorem setArmed_link (b : Bool) (l : Live) : (setArmed b l).link = l.link := rfl
@[simp] theorem setArmed_management (b : Bool) (l : Live) : (setArmed b l).management = l.management := rfl
@[simp] theorem setArmed_events (b : Bool) (l : Live) : (setArmed b l).events = l.events := rfl
@[simp] theorem setArmed_part (b : Bool) (l : Live) : (setArmed b l).part = l.part := rfl

/-! ### `withdraw` -/

@[simp] theorem withdraw_now (p : LinkRequest → Bool) (l : Live) : (withdraw p l).now = l.now := rfl
@[simp] theorem withdraw_port (p : LinkRequest → Bool) (l : Live) : (withdraw p l).port = l.port := rfl
@[simp] theorem withdraw_classifier (p : LinkRequest → Bool) (l : Live) : (withdraw p l).classifier = l.classifier := rfl
@[simp] theorem withdraw_slots (p : LinkRequest → Bool) (l : Live) : (withdraw p l).slots = l.slots := rfl
@[simp] theorem withdraw_air (p : LinkRequest → Bool) (l : Live) : (withdraw p l).air = l.air := rfl
@[simp] theorem withdraw_planner (p : LinkRequest → Bool) (l : Live) : (withdraw p l).planner = l.planner := rfl
@[simp] theorem withdraw_budget (p : LinkRequest → Bool) (l : Live) : (withdraw p l).budget = l.budget := rfl
@[simp] theorem withdraw_sequencer (p : LinkRequest → Bool) (l : Live) : (withdraw p l).sequencer = l.sequencer := rfl
@[simp] theorem withdraw_link (p : LinkRequest → Bool) (l : Live) : (withdraw p l).link = { l.link with requests := l.link.requests.filter fun r => !p r } := rfl
@[simp] theorem withdraw_management (p : LinkRequest → Bool) (l : Live) : (withdraw p l).management = l.management := rfl
@[simp] theorem withdraw_events (p : LinkRequest → Bool) (l : Live) : (withdraw p l).events = l.events := rfl
@[simp] theorem withdraw_part (p : LinkRequest → Bool) (l : Live) : (withdraw p l).part = l.part := rfl

/-! ### `dropShed` -/

@[simp] theorem dropShed_now (r : Role) (l : Live) : (dropShed r l).now = l.now := rfl
@[simp] theorem dropShed_port (r : Role) (l : Live) : (dropShed r l).port = l.port := rfl
@[simp] theorem dropShed_classifier (r : Role) (l : Live) : (dropShed r l).classifier = l.classifier := rfl
@[simp] theorem dropShed_slots (r : Role) (l : Live) : (dropShed r l).slots = l.slots := rfl
@[simp] theorem dropShed_air (r : Role) (l : Live) : (dropShed r l).air = l.air := rfl
@[simp] theorem dropShed_planner (r : Role) (l : Live) : (dropShed r l).planner = l.planner := rfl
@[simp] theorem dropShed_budget (r : Role) (l : Live) : (dropShed r l).budget = { l.budget with shedList := l.budget.shedList.filter fun e => e.role != r } := rfl
@[simp] theorem dropShed_sequencer (r : Role) (l : Live) : (dropShed r l).sequencer = l.sequencer := rfl
@[simp] theorem dropShed_link (r : Role) (l : Live) : (dropShed r l).link = l.link := rfl
@[simp] theorem dropShed_management (r : Role) (l : Live) : (dropShed r l).management = l.management := rfl
@[simp] theorem dropShed_events (r : Role) (l : Live) : (dropShed r l).events = l.events := rfl
@[simp] theorem dropShed_part (r : Role) (l : Live) : (dropShed r l).part = l.part := rfl

/-! ### `clearCapped` -/

@[simp] theorem clearCapped_now (z : Fin 4) (l : Live) : (clearCapped z l).now = l.now := rfl
@[simp] theorem clearCapped_port (z : Fin 4) (l : Live) : (clearCapped z l).port = l.port := rfl
@[simp] theorem clearCapped_classifier (z : Fin 4) (l : Live) : (clearCapped z l).classifier = l.classifier := rfl
@[simp] theorem clearCapped_slots (z : Fin 4) (l : Live) : (clearCapped z l).slots = l.slots := rfl
@[simp] theorem clearCapped_air (z : Fin 4) (l : Live) : (clearCapped z l).air = l.air := rfl
@[simp] theorem clearCapped_planner (z : Fin 4) (l : Live) : (clearCapped z l).planner = l.planner := rfl
@[simp] theorem clearCapped_budget (z : Fin 4) (l : Live) : (clearCapped z l).budget = { l.budget with capped := l.budget.capped.set z false } := rfl
@[simp] theorem clearCapped_sequencer (z : Fin 4) (l : Live) : (clearCapped z l).sequencer = l.sequencer := rfl
@[simp] theorem clearCapped_link (z : Fin 4) (l : Live) : (clearCapped z l).link = l.link := rfl
@[simp] theorem clearCapped_management (z : Fin 4) (l : Live) : (clearCapped z l).management = l.management := rfl
@[simp] theorem clearCapped_events (z : Fin 4) (l : Live) : (clearCapped z l).events = l.events := rfl
@[simp] theorem clearCapped_part (z : Fin 4) (l : Live) : (clearCapped z l).part = l.part := rfl

/-! ### `clearLatches` -/

@[simp] theorem clearLatches_now (k : BitVec 32) (l : Live) : (clearLatches k l).now = l.now := by simp only [clearLatches]
@[simp] theorem clearLatches_port (k : BitVec 32) (l : Live) : (clearLatches k l).port = l.port := by simp only [clearLatches]
@[simp] theorem clearLatches_classifier (k : BitVec 32) (l : Live) : (clearLatches k l).classifier = l.classifier := by simp only [clearLatches]
@[simp] theorem clearLatches_slots (k : BitVec 32) (l : Live) : (clearLatches k l).slots = l.slots := by simp only [clearLatches]
@[simp] theorem clearLatches_air (k : BitVec 32) (l : Live) : (clearLatches k l).air = l.air := by simp only [clearLatches]
@[simp] theorem clearLatches_planner (k : BitVec 32) (l : Live) : (clearLatches k l).planner = l.planner := by simp only [clearLatches]
@[simp] theorem clearLatches_budget (k : BitVec 32) (l : Live) : (clearLatches k l).budget = l.budget := by simp only [clearLatches]
@[simp] theorem clearLatches_sequencer (k : BitVec 32) (l : Live) : (clearLatches k l).sequencer = l.sequencer := by simp only [clearLatches]
@[simp] theorem clearLatches_link (k : BitVec 32) (l : Live) : (clearLatches k l).link = l.link := by simp only [clearLatches]
@[simp] theorem clearLatches_management (k : BitVec 32) (l : Live) : (clearLatches k l).management = l.management := by simp only [clearLatches]
@[simp] theorem clearLatches_part (k : BitVec 32) (l : Live) : (clearLatches k l).part = l.part := by simp only [clearLatches]

/-! ### `endScan` -/

@[simp] theorem endScan_now (l : Live) : (endScan l).now = l.now := rfl
@[simp] theorem endScan_port (l : Live) : (endScan l).port = l.port := rfl
@[simp] theorem endScan_slots (l : Live) : (endScan l).slots = l.slots := rfl
@[simp] theorem endScan_air (l : Live) : (endScan l).air = l.air := rfl
@[simp] theorem endScan_planner (l : Live) : (endScan l).planner = l.planner := rfl
@[simp] theorem endScan_budget (l : Live) : (endScan l).budget = l.budget := rfl
@[simp] theorem endScan_sequencer (l : Live) : (endScan l).sequencer = l.sequencer := rfl
@[simp] theorem endScan_link (l : Live) : (endScan l).link = l.link := rfl
@[simp] theorem endScan_management (l : Live) : (endScan l).management = l.management := rfl
@[simp] theorem endScan_events (l : Live) : (endScan l).events = l.events := rfl
@[simp] theorem endScan_part (l : Live) : (endScan l).part = l.part := rfl

/-! ### `countUnclaimed` -/

@[simp] theorem countUnclaimed_now (l : Live) : (countUnclaimed l).now = l.now := rfl
@[simp] theorem countUnclaimed_port (l : Live) : (countUnclaimed l).port = l.port := rfl
@[simp] theorem countUnclaimed_classifier (l : Live) : (countUnclaimed l).classifier = { l.classifier with unclaimed := countUp l.classifier.unclaimed countMax } := rfl
@[simp] theorem countUnclaimed_slots (l : Live) : (countUnclaimed l).slots = l.slots := rfl
@[simp] theorem countUnclaimed_air (l : Live) : (countUnclaimed l).air = l.air := rfl
@[simp] theorem countUnclaimed_planner (l : Live) : (countUnclaimed l).planner = l.planner := rfl
@[simp] theorem countUnclaimed_budget (l : Live) : (countUnclaimed l).budget = l.budget := rfl
@[simp] theorem countUnclaimed_sequencer (l : Live) : (countUnclaimed l).sequencer = l.sequencer := rfl
@[simp] theorem countUnclaimed_link (l : Live) : (countUnclaimed l).link = l.link := rfl
@[simp] theorem countUnclaimed_management (l : Live) : (countUnclaimed l).management = l.management := rfl
@[simp] theorem countUnclaimed_events (l : Live) : (countUnclaimed l).events = l.events := rfl
@[simp] theorem countUnclaimed_part (l : Live) : (countUnclaimed l).part = l.part := rfl

/-! ### The port with one place changed -/

@[simp] theorem Port.onPlace_unit (i : Fin 7) (f : Place → Place) (p : Port) : (p.onPlace i f).unit = p.unit := rfl
@[simp] theorem Port.onPlace_fast (i : Fin 7) (f : Place → Place) (p : Port) : (p.onPlace i f).fast = p.fast := rfl
@[simp] theorem Port.onPlace_joined (i : Fin 7) (f : Place → Place) (p : Port) : (p.onPlace i f).joined = p.joined := rfl
@[simp] theorem Port.onPlace_rxQueue (i : Fin 7) (f : Place → Place) (p : Port) : (p.onPlace i f).rxQueue = p.rxQueue := rfl
@[simp] theorem Port.onPlace_rxDropped (i : Fin 7) (f : Place → Place) (p : Port) : (p.onPlace i f).rxDropped = p.rxDropped := rfl
@[simp] theorem Port.onPlace_txErrors (i : Fin 7) (f : Place → Place) (p : Port) : (p.onPlace i f).txErrors = p.txErrors := rfl
@[simp] theorem Port.onPlace_rxErrors (i : Fin 7) (f : Place → Place) (p : Port) : (p.onPlace i f).rxErrors = p.rxErrors := rfl
@[simp] theorem Port.onPlace_places (i : Fin 7) (f : Place → Place) (p : Port) : (p.onPlace i f).places = updateAt p.places i f := rfl

/-! ### Tables -/

theorem get_eq {α : Type} {n : Nat} (v : Vector α n) (i : Fin n) : v.get i = v[i.val] := rfl

@[simp] theorem get_set_self {α : Type} {n : Nat} (v : Vector α n) (i : Fin n) (x : α) :
    (v.set i.val x i.isLt).get i = x := by
  simp [get_eq]

theorem get_set_other {α : Type} {n : Nat} (v : Vector α n) (i j : Fin n) (x : α) (h : j ≠ i) :
    (v.set i.val x i.isLt).get j = v.get j := by
  have h' : i.val ≠ j.val := fun e => h (Fin.ext e.symm)
  simp [get_eq, Vector.getElem_set_ne, h']

@[simp] theorem get_ofFn {α : Type} {n : Nat} (f : Fin n → α) (i : Fin n) : (Vector.ofFn f).get i = f i := by
  simp [get_eq]

@[simp] theorem get_replicate {α : Type} {n : Nat} (x : α) (i : Fin n) : (Vector.replicate n x).get i = x := by
  simp [get_eq]

@[simp] theorem get_mapAll {α β : Type} {n : Nat} (f : α → β) (v : Vector α n) (i : Fin n) :
    (mapAll f v).get i = f (v.get i) := by
  simp [get_eq, mapAll]

@[simp] theorem updateAt_self {α : Type} {n : Nat} (v : Vector α n) (i : Fin n) (f : α → α) :
    (updateAt v i f).get i = f (v.get i) := by
  simp [updateAt]

theorem updateAt_other {α : Type} {n : Nat} (v : Vector α n) (i j : Fin n) (f : α → α) (h : j ≠ i) :
    (updateAt v i f).get j = v.get j :=
  get_set_other v i j _ h

/-! ### What a step runs -/

theorem step_of_pending (s : State) (c : Instr) (rest : List Instr) (h : s.pending = c :: rest) :
    step s = exec c { s with pending := rest } := by
  simp [step, h]

@[simp] theorem State.running_held (s : State) (f : Live → Live) (h : s.held = true) : s.running f = s := by
  simp [State.running, h]

@[simp] theorem State.running_free (s : State) (f : Live → Live) (h : s.held = false) :
    s.running f = { s with live := f s.live } := by
  simp [State.running, h]

@[simp] theorem onExpiry_none (k : Live → Live) (l : Live) : onExpiry none k l = l := rfl

@[simp] theorem onExpiry_some (e : Nat) (k : Live → Live) (l : Live) : onExpiry (some e) k l = k (l.advanceTo e) := rfl

end Sys2Proof.Machine
end

