-- ==== Sys2Proof/Laws/Banks.lean ====
section
/-! SUPPORT. The banks: what a write of a byte does to every read, and that every operation keeps the canonical form. -/

namespace Sys2Proof.Machine

/-! ### Reading -/

/-- An address below those a bank lists reads as the default image's byte. -/
theorem readByte_below {lo a : Nat} {b : Bank} (h : bankWfFrom lo b = true) (ha : a < lo) :
    readByte b a = defaultByte a := by
  induction b generalizing lo with
  | nil => rfl
  | cons c rest ih =>
    obtain ⟨k, v⟩ := c
    simp only [bankWfFrom, Bool.and_eq_true, decide_eq_true_eq] at h
    have hne : a ≠ k := by omega
    simp only [readByte, if_neg hne]
    exact ih h.2 (by omega)

theorem bankWfFrom_mono {lo lo' : Nat} {b : Bank} (h : bankWfFrom lo b = true) (hl : lo' ≤ lo) :
    bankWfFrom lo' b = true := by
  cases b with
  | nil => rfl
  | cons c rest =>
    obtain ⟨k, v⟩ := c
    simp only [bankWfFrom, Bool.and_eq_true, decide_eq_true_eq] at h ⊢
    exact ⟨⟨⟨by omega, h.1.1.2⟩, h.1.2⟩, h.2⟩

/-! ### Writing -/

theorem writeByte_wfFrom {lo a : Nat} {b : Bank} (v : Byte) (h : bankWfFrom lo b = true) (hlo : lo ≤ a)
    (ha : a < bankSize) : bankWfFrom lo (writeByte b a v) = true := by
  induction b generalizing lo with
  | nil =>
    simp only [writeByte]
    split
    · rfl
    · simp [bankWfFrom, *]
  | cons c rest ih =>
    obtain ⟨k, w⟩ := c
    have h' := h
    simp only [bankWfFrom, Bool.and_eq_true, decide_eq_true_eq] at h
    obtain ⟨⟨⟨hk, hks⟩, hw⟩, hrest⟩ := h
    simp only [writeByte]
    split
    · split
      · exact h'
      · rename_i hak hv
        simp only [bankWfFrom, Bool.and_eq_true, decide_eq_true_eq]
        exact ⟨⟨⟨by assumption, by assumption⟩, hv⟩, ⟨⟨hak, hks⟩, hw⟩, hrest⟩
    · split
      · rename_i hak hek
        subst hek
        split
        · exact bankWfFrom_mono hrest (by omega)
        · simp [bankWfFrom, *]
      · simp only [bankWfFrom, Bool.and_eq_true, decide_eq_true_eq]
        exact ⟨⟨⟨hk, hks⟩, hw⟩, ih hrest (by omega)⟩

/-- A write within the bank keeps the canonical form. -/
theorem writeByte_wf {b : Bank} {a : Nat} (v : Byte) (h : bankWf b = true) (ha : a < bankSize) :
    bankWf (writeByte b a v) = true :=
  writeByte_wfFrom v h (Nat.zero_le _) ha

theorem readByte_writeByte_wfFrom {lo : Nat} {b : Bank} (h : bankWfFrom lo b = true) (a c : Nat) (v : Byte) :
    readByte (writeByte b a v) c = if c = a then v else readByte b c := by
  induction b generalizing lo with
  | nil =>
    simp only [writeByte]
    split <;> rename_i hv <;> simp only [readByte]
    split
    · rename_i hc; rw [hc, hv]
    · rfl
  | cons e rest ih =>
    obtain ⟨k, w⟩ := e
    simp only [bankWfFrom, Bool.and_eq_true, decide_eq_true_eq] at h
    obtain ⟨⟨⟨hk, hks⟩, hw⟩, hrest⟩ := h
    simp only [writeByte]
    split
    · rename_i hak
      split
      · rename_i hv
        by_cases hc : c = a
        · subst hc
          have hne : c ≠ k := by omega
          simp only [readByte, if_neg hne, if_true]
          rw [readByte_below hrest (by omega), hv]
        · simp [hc]
      · simp only [readByte]
    · split
      · rename_i hak hek
        subst hek
        split
        · rename_i hv
          by_cases hc : c = a
          · subst hc
            rw [if_pos rfl, readByte_below hrest (by omega), hv]
          · simp only [readByte, if_neg hc]
        · simp only [readByte]
          split <;> rfl
      · rename_i hak hek
        simp only [readByte]
        by_cases hck : c = k
        · have : c ≠ a := by omega
          simp [hck]
          intro he
          omega
        · simp only [if_neg hck]
          exact ih hrest

/-- A read after a write: the byte written at its address, and every other byte as before. -/
theorem readByte_writeByte {b : Bank} (h : bankWf b = true) (a c : Nat) (v : Byte) :
    readByte (writeByte b a v) c = if c = a then v else readByte b c :=
  readByte_writeByte_wfFrom h a c v

/-! ### The other operations keep the canonical form -/

theorem addressOf_lt {page off : Nat} (hp : page < 20) : addressOf page (off % 128) < bankSize := by
  have := Nat.mod_lt off (show 0 < 128 by decide)
  simp only [addressOf, bankSize]
  omega

/-- LOAD_DATA's writes keep the canonical form (R162). -/
theorem writeWrapped_wf {page : Nat} (hp : page < 20) (data : List Byte) (b : Bank) (off : Nat) (h : bankWf b = true) :
    bankWf (writeWrapped b page off data).1 = true := by
  induction data generalizing b off with
  | nil => exact h
  | cons v rest ih => exact ih _ _ (writeByte_wf v h (addressOf_lt hp))

/-- A copy of bytes keeps the canonical form (R168). -/
theorem copyBytes_wf (src : Bank) (n a : Nat) (dst : Bank) (h : bankWf dst = true) (ha : a + n ≤ bankSize) :
    bankWf (copyBytes src a n dst) = true := by
  induction n generalizing a dst with
  | zero => exact h
  | succ n ih => exact ih _ _ (writeByte_wf _ h (by omega)) (by omega)

theorem writeCells_wf (page : Nat) (cells : List Host.Cell) (b : Bank) (h : bankWf b = true) :
    bankWf (writeCells page cells b) = true := by
  induction cells generalizing b with
  | nil => exact h
  | cons c rest ih =>
    obtain ⟨a, v⟩ := c
    simp only [writeCells]
    apply ih
    split
    · exact writeByte_wf v h (by omega)
    · exact h

theorem disableRule_wf (b : Bank) (n : Nat) (h : bankWf b = true) (hn : n < 160) : bankWf (disableRule b n) = true :=
  writeByte_wf _ h (by simp only [bankSize]; omega)

/-- CLEAR_MARKED's writes keep the canonical form (R166). -/
theorem disableRules_wf (rules : List Nat) (b : Bank) (h : bankWf b = true) (hr : ∀ n ∈ rules, n < 160) :
    bankWf (rules.foldl disableRule b) = true := by
  induction rules generalizing b with
  | nil => exact h
  | cons n rest ih =>
    exact ih _ (disableRule_wf b n h (hr n (by simp))) fun m hm => hr m (by simp [hm])

end Sys2Proof.Machine
end

