-- ==== Sys2Proof/Laws/Collections.lean ====
section
/-! SUPPORT. The three collections of the sequencer (R117): what each operation that places, removes or keeps an actuator's
work does to them, and the order of the Move Queue. -/

namespace Sys2Proof.Machine

/-! ### The order of the Move Queue -/

theorem queueOrdered_filter (p : QueueEntry → Bool) :
    ∀ q : List QueueEntry, queueOrdered q = true → queueOrdered (q.filter p) = true
  | [], _ => rfl
  | e :: q, h => by
    simp only [queueOrdered, Bool.and_eq_true, Bool.or_eq_true] at h
    have ih := queueOrdered_filter p q h.2
    by_cases he : p e = true
    · simp only [List.filter_cons, he, if_true, queueOrdered, Bool.and_eq_true, Bool.or_eq_true]
      refine ⟨h.1.imp id fun all => ?_, ih⟩
      rw [List.all_eq_true] at all ⊢
      exact fun x hx => all x (List.mem_filter.mp hx).1
    · simpa [he] using ih

theorem queueOrdered_normal : ∀ q : List QueueEntry, (∀ x ∈ q, x.urgent = false) → queueOrdered q = true
  | [], _ => rfl
  | e :: q, h => by
    have rest : ∀ x ∈ q, x.urgent = false := fun x hx => h x (List.mem_cons_of_mem _ hx)
    simp only [queueOrdered, Bool.and_eq_true, Bool.or_eq_true]
    exact ⟨.inr (List.all_eq_true.mpr fun x hx => by simp [rest x hx]), queueOrdered_normal q rest⟩

/-- URGENT entries before a list in order. -/
theorem queueOrdered_append : ∀ u q : List QueueEntry, (∀ x ∈ u, x.urgent = true) → queueOrdered q = true →
    queueOrdered (u ++ q) = true
  | [], _, _, h => h
  | e :: u, q, hu, h => by
    have rest := queueOrdered_append u q (fun x hx => hu x (List.mem_cons_of_mem _ hx)) h
    simp [queueOrdered, hu e (List.mem_cons_self ..), rest]

/-- A list in order is its URGENT entries and then its NORMAL ones. -/
theorem queueOrdered_split (e : QueueEntry) (q : List QueueEntry) :
    queueOrdered ((q.filter fun x => x.urgent) ++ e :: q.filter fun x => !x.urgent) = true := by
  refine queueOrdered_append _ _ (fun x hx => (List.mem_filter.mp hx).2) ?_
  have normal : ∀ x ∈ q.filter (fun x => !x.urgent), x.urgent = false := fun x hx => by
    simpa using (List.mem_filter.mp hx).2
  simp only [queueOrdered, Bool.and_eq_true, Bool.or_eq_true]
  exact ⟨.inr (List.all_eq_true.mpr fun x hx => by simp [normal x hx]), queueOrdered_normal _ normal⟩

/-- A NORMAL entry at the end of a list in order. -/
theorem queueOrdered_snoc (e : QueueEntry) (he : e.urgent = false) :
    ∀ q : List QueueEntry, queueOrdered q = true → queueOrdered (q ++ [e]) = true
  | [], _ => by simp [queueOrdered]
  | x :: q, h => by
    simp only [queueOrdered, Bool.and_eq_true, Bool.or_eq_true, List.cons_append] at h ⊢
    refine ⟨h.1.imp id fun all => ?_, queueOrdered_snoc e he q h.2⟩
    simp_all

/-- An entry that joins a queue in order at the tail or at the head of its class keeps the order. -/
theorem queueOrdered_insert (e : QueueEntry) (q : List QueueEntry) (h : queueOrdered q = true) :
    queueOrdered (tailInsert e q) = true ∧ queueOrdered (headInsert e q) = true := by
  unfold tailInsert headInsert
  by_cases he : e.urgent = true
  · exact ⟨by simpa [he] using queueOrdered_split e q, by simp [he, queueOrdered, h]⟩
  · have he' : e.urgent = false := by simpa using he
    exact ⟨by simpa [he'] using queueOrdered_snoc e he' q h, by simpa [he'] using queueOrdered_split e q⟩

/-! ### Leaving and joining -/

/-- An actuator's work leaves the collections, and nothing else changes. -/
theorem leaveWork_eq (r : Role) (l : Live) :
    leaveWork r l = { l with sequencer := { l.sequencer with
      queue := l.sequencer.queue.filter fun e => e.role != r
      inFlight := l.sequencer.inFlight.filter fun i => i.role != r
      suspended := l.sequencer.suspended.filter fun m => m.role != r } } := by
  unfold leaveWork removeItem removeEntry setInFlight setQueue
  rcases hs : l.sequencer.suspended with _ | m
  · simp [hs]
  · by_cases hm : m.role = r <;> simp [hs, hm, setSuspended, Option.filter]

theorem placeTail_eq (e : QueueEntry) (l : Live) :
    placeTail e l = { l with sequencer := { l.sequencer with
      queue := tailInsert e (l.sequencer.queue.filter fun x => x.role != e.role)
      inFlight := l.sequencer.inFlight.filter fun i => i.role != e.role
      suspended := l.sequencer.suspended.filter fun m => m.role != e.role } } := by
  unfold placeTail; rw [leaveWork_eq]; rfl

theorem placeHead_eq (e : QueueEntry) (l : Live) :
    placeHead e l = { l with sequencer := { l.sequencer with
      queue := headInsert e (l.sequencer.queue.filter fun x => x.role != e.role)
      inFlight := l.sequencer.inFlight.filter fun i => i.role != e.role
      suspended := l.sequencer.suspended.filter fun m => m.role != e.role } } := by
  unfold placeHead; rw [leaveWork_eq]; rfl

/-- The actuators with work, once one's work has left. -/
theorem workers_leaveWork (r : Role) (l : Live) :
    (leaveWork r l).sequencer.workers = l.sequencer.workers.filter fun x => x != r := by
  rw [leaveWork_eq]
  unfold Sequencer.workers
  simp only [List.filter_append, List.filter_map]
  congr 1
  rcases l.sequencer.suspended with _ | m
  · rfl
  · by_cases hm : m.role = r <;> simp [Option.filter, hm]

/-- The actuators with work, once an entry has joined: its own and those that had work before. -/
theorem mem_workers_placeTail (e : QueueEntry) (l : Live) (r : Role) :
    r ∈ (placeTail e l).sequencer.workers ↔ r = e.role ∨ r ∈ (leaveWork e.role l).sequencer.workers := by
  rw [placeTail_eq, leaveWork_eq]
  unfold Sequencer.workers tailInsert
  by_cases he : e.urgent = true
  · simp only [he, if_true, List.mem_append, List.mem_map, List.mem_cons, List.mem_filter]
    constructor
    · rintro ((⟨x, h | h | h, rfl⟩ | h) | h)
      · exact .inr (.inl (.inl ⟨x, h.1, rfl⟩))
      · exact .inl (by rw [h])
      · exact .inr (.inl (.inl ⟨x, h.1, rfl⟩))
      · exact .inr (.inl (.inr h))
      · exact .inr (.inr h)
    · rintro (rfl | (⟨x, h, rfl⟩ | h) | h)
      · exact .inl (.inl ⟨e, .inr (.inl rfl), rfl⟩)
      · by_cases hx : x.urgent = true
        · exact .inl (.inl ⟨x, .inl ⟨h, hx⟩, rfl⟩)
        · exact .inl (.inl ⟨x, .inr (.inr ⟨h, by simpa using hx⟩), rfl⟩)
      · exact .inl (.inr h)
      · exact .inr h
  · simp only [he, Bool.false_eq_true, if_false, List.mem_append, List.mem_map, List.mem_singleton]
    constructor
    · rintro ((⟨x, h | h, rfl⟩ | h) | h)
      · exact .inr (.inl (.inl ⟨x, h, rfl⟩))
      · exact .inl (by rw [h])
      · exact .inr (.inl (.inr h))
      · exact .inr (.inr h)
    · rintro (rfl | (⟨x, h, rfl⟩ | h) | h)
      · exact .inl (.inl ⟨e, .inr rfl, rfl⟩)
      · exact .inl (.inl ⟨x, .inl h, rfl⟩)
      · exact .inl (.inr h)
      · exact .inr h

/-! ### Shedding in WATCH -/

theorem shedFrom_watch (img : Bank) (l : Live) (h : l.part.state = .watch) (rs : List Role) (excess : Int) :
    shedFrom img rs excess l = (l, false) := by
  induction rs with
  | nil => rfl
  | cons r rest ih => simp [shedFrom, passedOver, h, ih]

/-- In WATCH the test for shedding makes no order (R106, R182). -/
theorem testShed_watch (img : Bank) (l : Live) (h : l.part.state = .watch) : testShed img l = l := by
  simp [testShed, shedFrom_watch img l h]

end Sys2Proof.Machine
end

