-- ==== Sys2Proof/Laws/Outer.lean ====
section
/-! SUPPORT. The frame of the load budget, the sequencer and the arbiter: what none of their operations changes. `outer`
keeps of the live part what lies outside them; two live parts with the same `outer` agree on the clock, the slots, the
air source controller, the planner, the classifier, the management unit, the part state, the port but for its transmit
places, the event mask and status timer, and the link but for its request list and the transaction in progress. -/

namespace Sys2Proof.Machine

/-- The live part with the state of the budget, the sequencer, the arbiter, the transmit places and the latches erased. -/
def Live.outer (l : Live) : Live :=
  { l with
    budget := Budget.initial 0
    sequencer := Sequencer.initial
    port := { l.port with places := Vector.replicate 7 .empty }
    events := { l.events with latched := Vector.replicate 22 none, spacingHold := none, owed := false }
    link := { l.link with requests := [], onLink := none, sent := false, replyWindow := none } }

section Fields

variable {l m : Live} (h : l.outer = m.outer)
include h

theorem outer_now : l.now = m.now := (congrArg (fun x : Live => x.now) h :)
theorem outer_slots : l.slots = m.slots := (congrArg (fun x : Live => x.slots) h :)
theorem outer_classifier : l.classifier = m.classifier := (congrArg (fun x : Live => x.classifier) h :)
theorem outer_air : l.air = m.air := (congrArg (fun x : Live => x.air) h :)
theorem outer_planner : l.planner = m.planner := (congrArg (fun x : Live => x.planner) h :)
theorem outer_management : l.management = m.management := (congrArg (fun x : Live => x.management) h :)
theorem outer_part : l.part = m.part := (congrArg (fun x : Live => x.part) h :)
theorem outer_unit : l.port.unit = m.port.unit := (congrArg (fun x : Live => x.port.unit) h :)
theorem outer_joined : l.port.joined = m.port.joined := (congrArg (fun x : Live => x.port.joined) h :)
theorem outer_rxQueue : l.port.rxQueue = m.port.rxQueue := (congrArg (fun x : Live => x.port.rxQueue) h :)
theorem outer_rxDropped : l.port.rxDropped = m.port.rxDropped := (congrArg (fun x : Live => x.port.rxDropped) h :)
theorem outer_txErrors : l.port.txErrors = m.port.txErrors := (congrArg (fun x : Live => x.port.txErrors) h :)
theorem outer_rxErrors : l.port.rxErrors = m.port.rxErrors := (congrArg (fun x : Live => x.port.rxErrors) h :)
theorem outer_mask : l.events.mask = m.events.mask := (congrArg (fun x : Live => x.events.mask) h :)
theorem outer_statusTimer : l.events.statusTimer = m.events.statusTimer := (congrArg (fun x : Live => x.events.statusTimer) h :)
theorem outer_directory : l.link.directory = m.link.directory := (congrArg (fun x : Live => x.link.directory) h :)
theorem outer_linkState : l.link.state = m.link.state := (congrArg (fun x : Live => x.link.state) h :)
theorem outer_window : l.link.window = m.link.window := (congrArg (fun x : Live => x.link.window) h :)
theorem outer_series : l.link.series = m.link.series := (congrArg (fun x : Live => x.link.series) h :)
theorem outer_wake : l.link.wake = m.link.wake := (congrArg (fun x : Live => x.link.wake) h :)

end Fields

/-! ### Reports and latches -/

@[simp] theorem outer_placeFrame (i : Fin 7) (f : TxFrame) (l : Live) : (placeFrame i f l).outer = l.outer := rfl

@[simp] theorem outer_reply (c : Byte) (r : Nat) (d : List Byte) (l : Live) : (reply c r d l).outer = l.outer := rfl

@[simp] theorem outer_placeStatusE (l : Live) : (placeStatusE l).outer = l.outer := rfl

@[simp] theorem outer_askStatusE (l : Live) : (askStatusE l).outer = l.outer := by
  unfold askStatusE; split <;> rfl

@[simp] theorem outer_latch (k : Kind) (n : Nat) (l : Live) : (latch k n l).outer = l.outer := by
  unfold latch
  dsimp only
  split
  · rw [outer_askStatusE]; rfl
  · rfl

/-! ### The load budget -/

theorem outer_withBudget (b : Budget) (l : Live) : ({ l with budget := b } : Live).outer = l.outer := rfl

@[simp] theorem outer_setCapped (z : Fin 4) (l : Live) : (setCapped z l).outer = l.outer := by
  unfold setCapped; split <;> simp [outer_withBudget]

@[simp] theorem outer_clearCapped (z : Fin 4) (l : Live) : (clearCapped z l).outer = l.outer := rfl

@[simp] theorem outer_report (r : Role) (f : Consumer → Consumer) (l : Live) : (report r f l).1.outer = l.outer := rfl

@[simp] theorem outer_dropShed (r : Role) (l : Live) : (dropShed r l).outer = l.outer := rfl

/-! ### The arbiter -/

@[simp] theorem outer_arbitrate (l : Live) : (arbitrate l).outer = l.outer := by
  unfold arbitrate; split
  · split <;> rfl
  · rfl

@[simp] theorem outer_placeRequest (o : LinkOwner) (a : Nat) (c : LinkCommand) (k : LinkClass) (l : Live) :
    (placeRequest o a c k l).outer = l.outer := by
  unfold placeRequest; rw [outer_arbitrate]; rfl

@[simp] theorem outer_withdraw (p : LinkRequest → Bool) (l : Live) : (withdraw p l).outer = l.outer := rfl

@[simp] theorem outer_withdrawRole (r : Role) (l : Live) : (withdrawRole r l).outer = l.outer := rfl

@[simp] theorem outer_placeProbe (a : Nat) (l : Live) : (placeProbe a l).outer = l.outer := by
  unfold placeProbe; split <;> simp

/-- A fold of operations that keep `outer` keeps it. -/
theorem outer_foldl {α : Type} (f : Live → α → Live) (hf : ∀ l a, (f l a).outer = l.outer) (xs : List α) (l : Live) :
    (xs.foldl f l).outer = l.outer := by
  induction xs generalizing l with
  | nil => rfl
  | cons x rest ih => rw [List.foldl_cons, ih, hf]

@[simp] theorem outer_placeProbes (st : NodeState) (l : Live) : (placeProbes st l).outer = l.outer :=
  outer_foldl _ (fun l a => outer_placeProbe a l) _ l

/-! ### The sequencer's collections -/

@[simp] theorem outer_onActuator (r : Role) (f : Actuator → Actuator) (l : Live) : (onActuator r f l).outer = l.outer := rfl
@[simp] theorem outer_setActuatorState (r : Role) (st : ActuatorState) (l : Live) :
    (setActuatorState r st l).outer = l.outer := rfl
@[simp] theorem outer_setPending (r : Role) (t : Option Target) (l : Live) : (setPending r t l).outer = l.outer := rfl
@[simp] theorem outer_setQueue (q : List QueueEntry) (l : Live) : (setQueue q l).outer = l.outer := rfl
@[simp] theorem outer_setInFlight (q : List Item) (l : Live) : (setInFlight q l).outer = l.outer := rfl
@[simp] theorem outer_setSuspended (m : Option Suspended) (l : Live) : (setSuspended m l).outer = l.outer := rfl
@[simp] theorem outer_setArmed (b : Bool) (l : Live) : (setArmed b l).outer = l.outer := rfl
@[simp] theorem outer_removeEntry (r : Role) (l : Live) : (removeEntry r l).outer = l.outer := rfl
@[simp] theorem outer_removeItem (r : Role) (l : Live) : (removeItem r l).outer = l.outer := rfl
@[simp] theorem outer_updateItem (r : Role) (f : Item → Item) (l : Live) : (updateItem r f l).outer = l.outer := rfl
@[simp] theorem outer_updateEntry (r : Role) (f : QueueEntry → QueueEntry) (l : Live) :
    (updateEntry r f l).outer = l.outer := rfl
@[simp] theorem outer_leaveWork (r : Role) (l : Live) : (leaveWork r l).outer = l.outer := by
  unfold leaveWork
  dsimp only
  split <;> rfl

@[simp] theorem outer_placeTail (e : QueueEntry) (l : Live) : (placeTail e l).outer = l.outer := by
  simp [placeTail]

@[simp] theorem outer_placeHead (e : QueueEntry) (l : Live) : (placeHead e l).outer = l.outer := by
  simp [placeHead]

@[simp] theorem outer_joinTail (e : QueueEntry) (l : Live) : (joinTail e l).outer = l.outer := by
  simp [joinTail]

@[simp] theorem outer_setRetry (img : Bank) (r : Role) (l : Live) : (setRetry img r l).outer = l.outer := rfl

/-! ### Issue, halts and the offer -/

@[simp] theorem outer_startItem (img : Bank) (r : Role) (k : WorkKind) (n m : Nat) (u s : Bool) (a : Nat)
    (l : Live) : (startItem img r k n m u s a l).outer = l.outer := by
  unfold startItem; simp only [outer_placeRequest, outer_onActuator]; exact outer_leaveWork r l

@[simp] theorem outer_issue (img : Bank) (e : QueueEntry) (n a : Nat) (l : Live) : (issue img e n a l).outer = l.outer := by
  simp [issue]

@[simp] theorem outer_placeHalt (img : Bank) (it : Item) (c : LinkClass) (l : Live) :
    (placeHalt img it c l).outer = l.outer := by
  simp [placeHalt]

@[simp] theorem outer_haltItem (img : Bank) (why : HaltReason) (it : Item) (l : Live) :
    (haltItem img why it l).outer = l.outer := by
  simp [haltItem]

@[simp] theorem outer_returnUnsent (img : Bank) (e : QueueEntry) (l : Live) : (returnUnsent img e l).outer = l.outer := by
  simp [returnUnsent]

@[simp] theorem outer_putEntry (img : Bank) (e : QueueEntry) (l : Live) : (putEntry img e l).1.outer = l.outer := by
  unfold putEntry
  split
  · rfl
  · split
    · simp
    · split
      · dsimp only
        split
        · split <;> simp [outer_withBudget]
        all_goals simp [outer_withBudget]
      · dsimp only
        split <;> simp [outer_withBudget]

@[simp] theorem outer_putEntries (img : Bank) (skip : QueueEntry → Bool) (es : List QueueEntry) (l : Live) :
    (putEntries img skip es l).1.outer = l.outer := by
  induction es generalizing l with
  | nil => rfl
  | cons e rest ih =>
    unfold putEntries
    split
    · exact ih l
    · dsimp only; rw [ih, outer_putEntry]

@[simp] theorem outer_trySuspend (img : Bank) (l : Live) : (trySuspend img l).outer = l.outer := by
  unfold trySuspend
  split
  · dsimp only
    split
    · simp
    · split <;> simp
  · rfl

@[simp] theorem outer_offerResume (img : Bank) (l : Live) : (offerResume img l).1.outer = l.outer := by
  unfold offerResume
  split
  · rfl
  · split
    · rfl
    · dsimp only
      split <;> simp [outer_withBudget]

@[simp] theorem outer_offerNow (img : Bank) (l : Live) : (offerNow img l).outer = l.outer := by
  unfold offerNow
  dsimp only
  split
  · simp
  · split <;> simp

@[simp] theorem outer_offer (img : Bank) (l : Live) : (offer img l).outer = l.outer := by
  unfold offer; split <;> simp

@[simp] theorem outer_roomNotice (img : Bank) (l : Live) : (roomNotice img l).outer = l.outer := by
  simp [roomNotice]

@[simp] theorem outer_afterRelease (img : Bank) (b : Bool) (l : Live) : (afterRelease img b l).outer = l.outer := by
  unfold afterRelease; split <;> simp

@[simp] theorem outer_offerAfter (img : Bank) (b : Bool) (l : Live) : (offerAfter img b l).outer = l.outer := by
  unfold offerAfter; split <;> simp

@[simp] theorem outer_releaseMotion (img : Bank) (r : Role) (l : Live) : (releaseMotion img r l).outer = l.outer := by
  simp [releaseMotion]

/-! ### Target arrival -/

@[simp] theorem outer_arrivalIdle (img : Bank) (r : Role) (t : Target) (l : Live) :
    (arrivalIdle img r t l).outer = l.outer := by
  unfold arrivalIdle; split <;> simp

@[simp] theorem outer_replaceLevel (e : QueueEntry) (t : Target) (l : Live) : (replaceLevel e t l).outer = l.outer := by
  unfold replaceLevel; split <;> simp

@[simp] theorem outer_arrivalQueued (img : Bank) (r : Role) (t : Target) (e : QueueEntry) (l : Live) :
    (arrivalQueued img r t e l).outer = l.outer := by
  unfold arrivalQueued
  dsimp only
  split
  · simp
  · split
    · split <;> simp
    · simp

@[simp] theorem outer_arrivalUncertain (r : Role) (t : Target) (l : Live) :
    (arrivalUncertain r t l).outer = l.outer := by
  unfold arrivalUncertain
  split
  · split <;> simp
  · split
    · dsimp only
      split <;> simp
    · simp

@[simp] theorem outer_arrivalSuspended (img : Bank) (r : Role) (t : Target) (l : Live) :
    (arrivalSuspended img r t l).outer = l.outer := by
  unfold arrivalSuspended
  split
  · rfl
  · split <;> simp

@[simp] theorem outer_arrivalInFlight (img : Bank) (r : Role) (t : Target) (it : Item) (l : Live) :
    (arrivalInFlight img r t it l).outer = l.outer := by
  unfold arrivalInFlight
  dsimp only
  split <;> try simp
  · split
    · simp
    · split <;> simp
  · split <;> simp

@[simp] theorem outer_arrivalBody (img : Bank) (r : Role) (t : Target) (l : Live) :
    (arrivalBody img r t l).outer = l.outer := by
  unfold arrivalBody
  split
  · simp
  · split <;> try simp
    split <;> simp

/-- A target's arrival keeps all that lies outside the budget, the sequencer and the arbiter (R118 to R121). -/
@[simp] theorem outer_targetArrival (img : Bank) (r : Role) (t : Target) (l : Live) :
    (targetArrival img r t l).outer = l.outer := by
  simp [targetArrival]

/-! ### Shedding -/

@[simp] theorem outer_shedOrder (img : Bank) (r : Role) (n : Nat) (l : Live) : (shedOrder img r n l).outer = l.outer := by
  unfold shedOrder
  split
  · simp
  · split
    · simp
    · split <;> simp

@[simp] theorem outer_orderShed (img : Bank) (r : Role) (n : Nat) (l : Live) : (orderShed img r n l).outer = l.outer := by
  unfold orderShed
  dsimp only
  split <;> simp [outer_withBudget]

@[simp] theorem outer_shedFrom (img : Bank) (rs : List Role) (e : Int) (l : Live) :
    (shedFrom img rs e l).1.outer = l.outer := by
  induction rs generalizing e l with
  | nil => rfl
  | cons r rest ih =>
    unfold shedFrom
    split
    · rfl
    · split
      · exact ih e l
      · split
        · exact ih e l
        · dsimp only; rw [ih, outer_orderShed]

@[simp] theorem outer_testShed (img : Bank) (l : Live) : (testShed img l).outer = l.outer := by
  unfold testShed
  dsimp only
  split
  · rfl
  · split <;> simp

/-! ### How work ends -/

@[simp] theorem outer_serve (img : Bank) (r : Role) (l : Live) : (serve img r l).outer = l.outer := by
  unfold serve
  split
  · rfl
  · split
    · rfl
    · split
      · split <;> simp
      · split
        · dsimp only
          split <;> simp
        · simp

@[simp] theorem outer_placeKeptOrder (it : Item) (l : Live) : (placeKeptOrder it l).outer = l.outer := by
  unfold placeKeptOrder; split <;> simp

@[simp] theorem outer_setAccepted (img : Bank) (it : Item) (l : Live) : (setAccepted img it l).outer = l.outer := by
  unfold setAccepted
  simp only [outer_serve, outer_afterRelease]
  split <;> split <;> simp

@[simp] theorem outer_returnEntry (img : Bank) (it : Item) (l : Live) : (returnEntry img it l).outer = l.outer := by
  unfold returnEntry
  dsimp only
  split <;> simp

@[simp] theorem outer_pendingAtEntry (img : Bank) (r : Role) (l : Live) : (pendingAtEntry img r l).outer = l.outer := by
  unfold pendingAtEntry; split <;> simp

@[simp] theorem outer_setFailed (img : Bank) (it : Item) (l : Live) : (setFailed img it l).outer = l.outer := by
  unfold setFailed
  dsimp only
  split
  · simp
  · split
    · simp
    · split
      · simp
      · split <;> simp

@[simp] theorem outer_becomeFaulted (r : Role) (why : FaultReason) (l : Live) : (becomeFaulted r why l).outer = l.outer := by
  unfold becomeFaulted
  dsimp only
  split <;> simp

@[simp] theorem outer_dropShedAndTest (img : Bank) (r : Role) (l : Live) : (dropShedAndTest img r l).outer = l.outer := by
  unfold dropShedAndTest; split <;> simp

@[simp] theorem outer_setRefused (img : Bank) (why : FaultReason) (it : Item) (l : Live) :
    (setRefused img why it l).outer = l.outer := by
  simp [setRefused]

@[simp] theorem outer_motionAccepted (img : Bank) (it : Item) (l : Live) : (motionAccepted img it l).outer = l.outer := by
  unfold motionAccepted
  dsimp only
  split <;> simp

@[simp] theorem outer_motionFailed (img : Bank) (it : Item) (l : Live) : (motionFailed img it l).outer = l.outer := by
  unfold motionFailed
  dsimp only
  split
  · rw [outer_offer]
    split <;> split <;> simp
  · simp

@[simp] theorem outer_motionFaulted (img : Bank) (why : FaultReason) (it : Item) (l : Live) :
    (motionFaulted img why it l).outer = l.outer := by
  simp [motionFaulted]

@[simp] theorem outer_motionEnded (img : Bank) (it : Item) (p : Nat) (b : Bool) (l : Live) :
    (motionEnded img it p b l).outer = l.outer := by
  simp [motionEnded]

@[simp] theorem outer_homeAgain (img : Bank) (it : Item) (l : Live) : (homeAgain img it l).outer = l.outer := by
  unfold homeAgain
  dsimp only
  split <;> simp

@[simp] theorem outer_motionOverrun (img : Bank) (it : Item) (p : Nat) (l : Live) :
    (motionOverrun img it p l).outer = l.outer := by
  unfold motionOverrun
  dsimp only
  split
  · simp
  · split <;> simp

@[simp] theorem outer_motionSuspended (img : Bank) (it : Item) (p : Nat) (l : Live) :
    (motionSuspended img it p l).outer = l.outer := by
  unfold motionSuspended
  dsimp only
  split <;> simp

@[simp] theorem outer_haltAnswered (img : Bank) (it : Item) (p : Nat) (l : Live) :
    (haltAnswered img it p l).outer = l.outer := by
  unfold haltAnswered
  split <;> try simp
  split <;> simp

@[simp] theorem outer_haltFailed (img : Bank) (it : Item) (l : Live) : (haltFailed img it l).outer = l.outer := by
  unfold haltFailed
  split <;> simp

@[simp] theorem outer_restartPoll (img : Bank) (it : Item) (l : Live) : (restartPoll img it l).outer = l.outer := rfl

@[simp] theorem outer_pollAnswered (img : Bank) (it : Item) (p m : Nat) (l : Live) :
    (pollAnswered img it p m l).outer = l.outer := by
  unfold pollAnswered
  dsimp only
  split
  · simp
  · split <;> simp

/-- The end of an item's transaction keeps all that lies outside the budget, the sequencer and the arbiter (R121 to
R129). -/
@[simp] theorem outer_itemOutcome (img : Bank) (it : Item) (c : LinkCommand) (e : Ending) (l : Live) :
    (itemOutcome img it c e l).outer = l.outer := by
  unfold itemOutcome
  split <;> simp

@[simp] theorem outer_deliverToItem (img : Bank) (r : Role) (id : Nat) (c : LinkCommand) (e : Ending) (l : Live) :
    (deliverToItem img r id c e l).outer = l.outer := by
  unfold deliverToItem
  split
  · split <;> simp
  · rfl

/-! ### Nodes leaving and returning, faults, SETTLING and activation -/

@[simp] theorem outer_abandon (r : Role) (l : Live) : (abandon r l).outer = l.outer := by
  simp [abandon]

@[simp] theorem outer_reportAll (f : Role → Consumer → Consumer) (rs : List Role) (l : Live) :
    (reportAll f rs l).1.outer = l.outer := by
  induction rs generalizing l with
  | nil => rfl
  | cons r rest ih => unfold reportAll; dsimp only; rw [ih, outer_report]

@[simp] theorem outer_dropAllShed (rs : List Role) (l : Live) : (dropAllShed rs l).outer = l.outer :=
  outer_foldl _ (fun l r => outer_dropShed r l) _ l

@[simp] theorem outer_tellStates (img : Bank) (f : Role → Consumer → Consumer) (rs : List Role) (l : Live) :
    (tellStates img f rs l).1.outer = l.outer := by
  unfold tellStates
  dsimp only
  split <;> simp

@[simp] theorem outer_reportStates (img : Bank) (f : Role → Consumer → Consumer) (rs : List Role) (l : Live) :
    (reportStates img f rs l).outer = l.outer := by
  simp [reportStates]

@[simp] theorem outer_rolesGone (img : Bank) (rs : List Role) (l : Live) : (rolesGone img rs l).outer = l.outer := by
  unfold rolesGone
  dsimp only
  rw [outer_offerAfter, outer_tellStates]
  exact outer_foldl _ (fun l r => by simp) _ l

@[simp] theorem outer_nodeGone (img : Bank) (serial : Nat) (l : Live) : (nodeGone img serial l).outer = l.outer := by
  simp [nodeGone]

@[simp] theorem outer_linkGone (img : Bank) (l : Live) : (linkGone img l).outer = l.outer := by
  simp [linkGone]

@[simp] theorem outer_serveKept (img : Bank) (r : Role) (l : Live) : (serveKept img r l).outer = l.outer := by
  unfold serveKept
  split
  · split <;> simp
  · rfl

@[simp] theorem outer_rolesUncertain (img : Bank) (rs : List Role) (l : Live) :
    (rolesUncertain img rs l).outer = l.outer := by
  unfold rolesUncertain
  dsimp only
  rw [outer_foldl _ (fun l r => outer_serveKept img r l), outer_reportStates]
  exact outer_foldl _ (fun l r => by simp) _ l

@[simp] theorem outer_nodeBound (img : Bank) (serial : Nat) (l : Live) : (nodeBound img serial l).outer = l.outer := by
  simp [nodeBound]

@[simp] theorem outer_clearFaultOf (img : Bank) (r : Role) (l : Live) : (clearFaultOf img r l).outer = l.outer := by
  unfold clearFaultOf
  split
  · dsimp only
    split
    · simp
    · simp
    · simp
    · by_cases hb : isBlower r = true <;> simp only [hb, if_true, if_false, Bool.false_eq_true] <;> split <;> simp
  · rfl

@[simp] theorem outer_emptyQueue (l : Live) : (emptyQueue l).outer = l.outer := by
  unfold emptyQueue
  dsimp only
  rw [outer_foldl]
  · simp
  · intro l e
    split <;> split <;> simp

@[simp] theorem outer_commandOff (r : Role) (l : Live) : (commandOff r l).outer = l.outer := by
  unfold commandOff
  split
  · simp
  · split <;> simp

@[simp] theorem outer_sequencerSettles (img : Bank) (l : Live) : (sequencerSettles img l).outer = l.outer := by
  unfold sequencerSettles
  dsimp only
  rw [outer_offerAfter]
  split
  · rw [outer_testShed, outer_foldl _ (fun l r => outer_commandOff r l), outer_emptyQueue]
  · rw [outer_foldl _ (fun l r => outer_commandOff r l), outer_emptyQueue]

@[simp] theorem outer_sequencerParks (l : Live) : (sequencerParks l).outer = l.outer := by
  unfold sequencerParks
  dsimp only
  rw [outer_foldl _ (fun l r => outer_setPending r none l)]
  split <;> simp

@[simp] theorem outer_sequencerActivates (old img : Bank) (l : Live) :
    (sequencerActivates old img l).outer = l.outer := by
  unfold sequencerActivates
  dsimp only
  rw [outer_foldl _ (fun l r => outer_serveKept img r l)]
  have moved : ∀ rs : List Role, ∀ m : Live, (rs.foldl (fun l r =>
      let st := activatedState img l r
      let l := onActuator r (fun a => { a with state := st, overruns := 0, fault := none, guardTime := none }) (abandon r l)
      if isBlower r ∧ st = .absent then clearCapped (zoneOf r) l else l) m).outer = m.outer := by
    intro rs m
    refine outer_foldl _ (fun l r => ?_) rs m
    dsimp only
    split <;> simp
  split
  · rw [outer_reportAll, outer_dropAllShed]; exact moved _ l
  · rw [outer_offerAfter, outer_reportAll, outer_dropAllShed]; exact moved _ l

/-- The issue of the air source controller's targets (R55). -/
@[simp] theorem outer_issueTargets (img : Bank) (l : Live) : (issueTargets img l).outer = l.outer := by
  unfold issueTargets
  split <;> simp

/-- The hand-on of a pass's targets (R92). -/
@[simp] theorem outer_handTargets (img : Bank) (v : Bool) (l : Live) : (handTargets img v l).outer = l.outer := by
  unfold handTargets
  dsimp only
  rw [outer_foldl, outer_foldl]
  · simp
  · intro l z
    unfold handZone
    dsimp only
    split <;> simp
  · intro l n
    simp [handStage]

end Sys2Proof.Machine
end

