-- ==== Sys2Proof/Laws/Core.lean ====
section
/-! SUPPORT. The frame of every block that a notice, a timer, a reply or a change of the part state reaches: what none of
them changes. `core` keeps of the live part the clock, the slots, the classifier's counts, the port's identity and
counts, the management unit but for its request in progress, the event mask, and the part's start cause and reset. -/

namespace Sys2Proof.Machine

/-- The live part with the state that notices, expiries, replies and changes of the part state reach erased. -/
def Live.core (l : Live) : Live :=
  { l with
    air := Air.initial 0 0
    planner := Planner.initial
    budget := Budget.initial 0
    sequencer := Sequencer.initial
    link := Link.initial
    port := { l.port with places := Vector.replicate 7 .empty, rxQueue := [] }
    classifier := { l.classifier with state := .idle }
    management := { l.management with inProgress := none }
    events := { Events.initial 0 with mask := l.events.mask }
    part := { Part.initial l.part.cause with resetHeld := l.part.resetHeld, restartTimer := l.part.restartTimer } }

section Fields

variable {l m : Live} (h : l.core = m.core)
include h

theorem core_now : l.now = m.now := (congrArg (fun x : Live => x.now) h :)
theorem core_slots : l.slots = m.slots := (congrArg (fun x : Live => x.slots) h :)
theorem core_counts : l.classifier.counts = m.classifier.counts := (congrArg (fun x : Live => x.classifier.counts) h :)
theorem core_unclaimed : l.classifier.unclaimed = m.classifier.unclaimed :=
  (congrArg (fun x : Live => x.classifier.unclaimed) h :)
theorem core_scan : l.classifier.scan = m.classifier.scan := (congrArg (fun x : Live => x.classifier.scan) h :)
theorem core_unit : l.port.unit = m.port.unit := (congrArg (fun x : Live => x.port.unit) h :)
theorem core_joined : l.port.joined = m.port.joined := (congrArg (fun x : Live => x.port.joined) h :)
theorem core_rxDropped : l.port.rxDropped = m.port.rxDropped := (congrArg (fun x : Live => x.port.rxDropped) h :)
theorem core_txErrors : l.port.txErrors = m.port.txErrors := (congrArg (fun x : Live => x.port.txErrors) h :)
theorem core_rxErrors : l.port.rxErrors = m.port.rxErrors := (congrArg (fun x : Live => x.port.rxErrors) h :)
theorem core_pointer : l.management.pointer = m.management.pointer :=
  (congrArg (fun x : Live => x.management.pointer) h :)
theorem core_ruleRange : l.management.ruleRange = m.management.ruleRange :=
  (congrArg (fun x : Live => x.management.ruleRange) h :)
theorem core_protectSet : l.management.protectSet = m.management.protectSet :=
  (congrArg (fun x : Live => x.management.protectSet) h :)
theorem core_saving : l.management.saving = m.management.saving :=
  (congrArg (fun x : Live => x.management.saving) h :)
theorem core_storeInvalid : l.management.storeInvalid = m.management.storeInvalid :=
  (congrArg (fun x : Live => x.management.storeInvalid) h :)
theorem core_mask : l.events.mask = m.events.mask := (congrArg (fun x : Live => x.events.mask) h :)
theorem core_cause : l.part.cause = m.part.cause := (congrArg (fun x : Live => x.part.cause) h :)
theorem core_resetHeld : l.part.resetHeld = m.part.resetHeld := (congrArg (fun x : Live => x.part.resetHeld) h :)
theorem core_restartTimer : l.part.restartTimer = m.part.restartTimer :=
  (congrArg (fun x : Live => x.part.restartTimer) h :)

end Fields

/-- What keeps `outer` keeps `core`. -/
theorem core_of_outer {l m : Live} (h : l.outer = m.outer) : l.core = m.core := (congrArg Live.core h :)

theorem core_foldl {α : Type} (f : Live → α → Live) (hf : ∀ l a, (f l a).core = l.core) (xs : List α) (l : Live) :
    (xs.foldl f l).core = l.core := by
  induction xs generalizing l with
  | nil => rfl
  | cons x rest ih => rw [List.foldl_cons, ih, hf]

@[simp] theorem core_latch (k : Kind) (n : Nat) (l : Live) : (latch k n l).core = l.core := core_of_outer (by simp)
@[simp] theorem core_reply (c : Byte) (r : Nat) (d : List Byte) (l : Live) : (reply c r d l).core = l.core := rfl
@[simp] theorem core_placeFrame (i : Fin 7) (f : TxFrame) (l : Live) : (placeFrame i f l).core = l.core := rfl
@[simp] theorem core_placeStatusE (l : Live) : (placeStatusE l).core = l.core := rfl
@[simp] theorem core_onLinkBlock (f : Link → Link) (l : Live) : (l.onLinkBlock f).core = l.core := rfl
@[simp] theorem core_withdraw (p : LinkRequest → Bool) (l : Live) : (withdraw p l).core = l.core := rfl
@[simp] theorem core_withAir (a : Air) (l : Live) : ({ l with air := a } : Live).core = l.core := rfl
@[simp] theorem core_withPlanner (p : Planner) (l : Live) : ({ l with planner := p } : Live).core = l.core := rfl
@[simp] theorem core_withBudget (b : Budget) (l : Live) : ({ l with budget := b } : Live).core = l.core := rfl
@[simp] theorem core_arbitrate (l : Live) : (arbitrate l).core = l.core := core_of_outer (by simp)
@[simp] theorem core_placeRequest (o : LinkOwner) (a : Nat) (c : LinkCommand) (k : LinkClass) (l : Live) :
    (placeRequest o a c k l).core = l.core := core_of_outer (by simp)
@[simp] theorem core_placeProbes (st : NodeState) (l : Live) : (placeProbes st l).core = l.core := core_of_outer (by simp)
@[simp] theorem core_issueTargets (img : Bank) (l : Live) : (issueTargets img l).core = l.core := core_of_outer (by simp)
@[simp] theorem core_roomNotice (img : Bank) (l : Live) : (roomNotice img l).core = l.core := core_of_outer (by simp)
@[simp] theorem core_testShed (img : Bank) (l : Live) : (testShed img l).core = l.core := core_of_outer (by simp)
@[simp] theorem core_handTargets (img : Bank) (v : Bool) (l : Live) : (handTargets img v l).core = l.core :=
  core_of_outer (by simp)
@[simp] theorem core_deliverToItem (img : Bank) (r : Role) (id : Nat) (c : LinkCommand) (e : Ending) (l : Live) :
    (deliverToItem img r id c e l).core = l.core := core_of_outer (by simp)
@[simp] theorem core_nodeGone (img : Bank) (n : Nat) (l : Live) : (nodeGone img n l).core = l.core := core_of_outer (by simp)
@[simp] theorem core_nodeBound (img : Bank) (n : Nat) (l : Live) : (nodeBound img n l).core = l.core :=
  core_of_outer (by simp)
@[simp] theorem core_linkGone (img : Bank) (l : Live) : (linkGone img l).core = l.core := core_of_outer (by simp)
@[simp] theorem core_clearFaultOf (img : Bank) (r : Role) (l : Live) : (clearFaultOf img r l).core = l.core :=
  core_of_outer (by simp)
@[simp] theorem core_sequencerSettles (img : Bank) (l : Live) : (sequencerSettles img l).core = l.core :=
  core_of_outer (by simp)
@[simp] theorem core_sequencerParks (l : Live) : (sequencerParks l).core = l.core := core_of_outer (by simp)
@[simp] theorem core_sequencerActivates (old img : Bank) (l : Live) : (sequencerActivates old img l).core = l.core :=
  core_of_outer (by simp)

/-! ### The air source controller (chapter 4) -/

@[simp] theorem core_formIndex (img : Bank) (l : Live) : (formIndex img l).core = l.core := by
  unfold formIndex
  dsimp only
  split <;> simp

@[simp] theorem core_reworkFraction (img : Bank) (l : Live) : (reworkFraction img l).core = l.core := by
  unfold reworkFraction
  split
  · dsimp only
    split <;> simp
  · rfl

@[simp] theorem core_latchRisen (a : Air) (h : Presented) (l : Live) : (latchRisen a h l).core = l.core := by
  unfold latchRisen
  dsimp only
  split <;> split <;> simp

@[simp] theorem core_testDefog (img : Bank) (l : Live) : (testDefog img l).core = l.core := by
  simp [testDefog]

@[simp] theorem core_testIngress (img : Bank) (l : Live) : (testIngress img l).core = l.core := by
  simp [testIngress]

@[simp] theorem core_enterMode (img : Bank) (m : Mode) (r : Option Reason) (l : Live) :
    (enterMode img m r l).core = l.core := by
  simp [enterMode]

@[simp] theorem core_changeReason (r : Reason) (l : Live) : (changeReason r l).core = l.core := by
  simp [changeReason]

@[simp] theorem core_applyTests (img : Bank) (t : Trigger) (l : Live) : (applyTests img t l).core = l.core := by
  unfold applyTests testsFresh testsShield testsClosedHaze testsClosedManual testsPurge
  dsimp only
  repeat' split
  all_goals simp

@[simp] theorem core_takeTransition (img : Bank) (t : Trigger) (l : Live) : (takeTransition img t l).core = l.core := by
  unfold takeTransition testsClosedHaze
  repeat' split
  all_goals simp

@[simp] theorem core_settleTimers (img : Bank) (n : Nat) (l : Live) : (settleTimers img n l).core = l.core := by
  induction n generalizing l with
  | zero => rfl
  | succ n ih =>
    unfold settleTimers
    split
    · rw [ih, core_takeTransition]
    · rfl

/-- An evaluation of the mode machine (R57). -/
@[simp] theorem core_evaluate (img : Bank) (t : Trigger) (l : Live) : (evaluate img t l).core = l.core := by
  simp [evaluate]

@[simp] theorem core_defrostReport (img : Bank) (b : Bool) (l : Live) : (defrostReport img b l).core = l.core := by
  simp [defrostReport]

@[simp] theorem core_airActivates (img : Bank) (l : Live) : (airActivates img l).core = l.core := by
  simp [airActivates]

/-! ### The zone planner (chapter 5) -/

@[simp] theorem core_putZone (z : Fin 4) (n : Zone) (l : Live) : (putZone z n l).core = l.core := by
  unfold putZone
  dsimp only
  split <;> simp

@[simp] theorem core_planZones (img : Bank) (s : Live) (c : PassContext) (zs : List (Fin 4)) (l : Live) :
    (planZones img s c zs l).1.core = l.core := by
  induction zs generalizing l with
  | nil => rfl
  | cons z rest ih =>
    unfold planZones
    split
    · dsimp only; rw [ih, core_putZone]
    · rw [ih, core_putZone]

@[simp] theorem core_computePass (img : Bank) (s : Live) : (computePass img s).core = s.core := by
  unfold computePass
  dsimp only
  rw [core_withPlanner, core_planZones, core_withPlanner]

/-- A plan pass (R74). -/
@[simp] theorem core_planPass (img : Bank) (s : Live) : (planPass img s).core = s.core := by
  unfold planPass
  dsimp only
  rw [core_withPlanner]
  split <;> simp

/-! ### The entry to RUN and the ignition (R181, R184) -/

@[simp] theorem core_startRun (img : Bank) (l : Live) : (startRun img l).core = l.core := by
  unfold startRun testIgnition startIgnitionTimer
  dsimp only
  split <;> rfl

@[simp] theorem core_enterRun (img : Bank) (l : Live) : (enterRun img l).core = l.core := by
  simp [enterRun]

@[simp] theorem core_ignitionNotice (img : Bank) (l : Live) : (ignitionNotice img l).core = l.core := by
  unfold ignitionNotice ignitionInRun startIgnitionTimer
  split
  · split
    · rfl
    · split <;> rfl
  · split <;> simp
  · rfl

/-! ### The cab link (chapter 8) -/

@[simp] theorem core_finishAccess (r : Nat) (l : Live) : (finishAccess r l).core = l.core := by
  unfold finishAccess; split <;> rfl

@[simp] theorem core_cancelAccess (r : Nat) (l : Live) : (cancelAccess r l).core = l.core := by
  unfold cancelAccess; split <;> simp

@[simp] theorem core_windowEnds (e : Ending) (l : Live) : (windowEnds e l).core = l.core := by
  unfold windowEnds; split <;> simp

@[simp] theorem core_loseNode (img : Bank) (n : Node) (l : Live) : (loseNode img n l).core = l.core := by
  unfold loseNode
  dsimp only
  split <;> split <;> simp

@[simp] theorem core_countOutcome (img : Bank) (a : Nat) (b : Bool) (l : Live) : (countOutcome img a b l).core = l.core := by
  unfold countOutcome
  split
  · rfl
  · dsimp only
    repeat' split
    all_goals simp

@[simp] theorem core_findNode (img : Bank) (n : Node) (l : Live) : (findNode img n l).core = l.core := by
  unfold findNode
  dsimp only
  split <;> simp

@[simp] theorem core_probeEnds (img : Bank) (a : Nat) (b : Bool) (l : Live) : (probeEnds img a b l).core = l.core := by
  unfold probeEnds
  repeat' split
  all_goals simp

@[simp] theorem core_removeProbe (a : Nat) (l : Live) : (removeProbe a l).core = l.core := rfl

@[simp] theorem core_bindAccepted (img : Bank) (s a k : Nat) (l : Live) : (bindAccepted img s a k l).core = l.core := by
  unfold bindAccepted
  split
  · split
    · dsimp only
      split <;> split <;> simp
    · rfl
  · dsimp only
    split <;> simp

@[simp] theorem core_requestRound (b : Bool) (l : Live) : (requestRound b l).core = l.core := by simp [requestRound]

@[simp] theorem core_startSeries (l : Live) : (startSeries l).core = l.core := by
  unfold startSeries; split <;> simp

@[simp] theorem core_endSeries (img : Bank) (l : Live) : (endSeries img l).core = l.core := by
  unfold endSeries
  dsimp only
  split <;> simp

@[simp] theorem core_breakSeries (l : Live) : (breakSeries l).core = l.core := rfl

@[simp] theorem core_requestBind (s k a : Nat) (l : Live) : (requestBind s k a l).core = l.core := by simp [requestBind]

@[simp] theorem core_roundEnds (img : Bank) (s k : Nat) (l : Live) : (roundEnds img s k l).core = l.core := by
  unfold roundEnds roundWon
  repeat' split
  all_goals simp

@[simp] theorem core_nextRound (l : Live) : (nextRound l).core = l.core := by
  unfold nextRound; split <;> simp

@[simp] theorem core_dropLeftOver (l : Live) : (dropLeftOver l).core = l.core := rfl

@[simp] theorem core_breakRound (l : Live) : (breakRound l).core = l.core := by
  unfold breakRound; split <;> simp

@[simp] theorem core_roundOver (img : Bank) (s k : Nat) (l : Live) : (roundOver img s k l).core = l.core := by
  unfold roundOver; split <;> simp

@[simp] theorem core_bindEnds (img : Bank) (s a : Nat) (b : Bool) (l : Live) : (bindEnds img s a b l).core = l.core := by
  unfold bindEnds bindFailed
  repeat' split
  all_goals simp

@[simp] theorem core_afterProbes (l : Live) : (afterProbes l).core = l.core := by
  unfold afterProbes; split <;> simp

@[simp] theorem core_beginProbes (l : Live) : (beginProbes l).core = l.core := by simp [beginProbes]

@[simp] theorem core_linkRestored (l : Live) : (linkRestored l).core = l.core := by
  unfold linkRestored
  repeat' split
  all_goals simp

@[simp] theorem core_deliverOutcome (img : Bank) (r : LinkRequest) (e : Ending) (l : Live) :
    (deliverOutcome img r e l).core = l.core := by
  unfold deliverOutcome
  split <;> simp

@[simp] theorem core_freeLink (l : Live) : (freeLink l).core = l.core := by simp [freeLink]

/-- The end of a transaction (R140, R150). -/
@[simp] theorem core_endTransaction (img : Bank) (r : LinkRequest) (e : Ending) (l : Live) :
    (endTransaction img r e l).core = l.core := by
  unfold endTransaction countTransaction
  split <;> simp

@[simp] theorem core_takeReply (img : Bank) (p : LinkRequest → Bool) (a : LinkReply) (l : Live) :
    (takeReply img p a l).core = l.core := by
  unfold takeReply
  repeat' split
  all_goals simp

@[simp] theorem core_requestSent (l : Live) : (requestSent l).core = l.core := by
  unfold requestSent
  repeat' split
  all_goals simp

@[simp] theorem core_windowPasses (img : Bank) (l : Live) : (windowPasses img l).core = l.core := by
  unfold windowPasses; split <;> simp

@[simp] theorem core_roundRead (img : Bank) (s k : Nat) (l : Live) : (roundRead img s k l).core = l.core := by
  unfold roundRead
  repeat' split
  all_goals simp

@[simp] theorem core_lineIsStuck (img : Bank) (l : Live) : (lineIsStuck img l).core = l.core := by
  unfold lineIsStuck stuckTransaction
  repeat' split
  all_goals simp

@[simp] theorem core_linkFails (img : Bank) (l : Live) : (linkFails img l).core = l.core := by
  unfold linkFails
  dsimp only
  split <;> simp

@[simp] theorem core_attemptEnds (img : Bank) (b : Bool) (l : Live) : (attemptEnds img b l).core = l.core := by
  unfold attemptEnds recoveringAttempt failedAttempt
  dsimp only
  repeat' split
  all_goals simp

@[simp] theorem core_excludeEntry (img : Bank) (n : Node) (l : Live) : (excludeEntry img n l).core = l.core := by
  unfold excludeEntry
  dsimp only
  split <;> simp

@[simp] theorem core_admitEntry (n : Node) (l : Live) : (admitEntry n l).core = l.core := by
  unfold admitEntry; split <;> simp

/-! ### The part state (chapter 11) -/

@[simp] theorem core_enterSettling (img : Bank) (l : Live) : (enterSettling img l).core = l.core := by
  unfold enterSettling linkSettles
  dsimp only
  rw [core_sequencerSettles]
  split <;> simp <;> rfl

@[simp] theorem core_askSettle (img : Bank) (l : Live) : (askSettle img l).core = l.core := by
  unfold askSettle
  split
  · rfl
  · simp

@[simp] theorem core_enterWatch (l : Live) : (enterWatch l).core = l.core := by
  have park : ∀ m : Live, (linkParks m).core = m.core := by
    intro m
    unfold linkParks
    dsimp only
    split <;> simp
  unfold enterWatch
  dsimp only
  rw [park, core_sequencerParks]
  rfl

@[simp] theorem core_settleCheck (l : Live) : (settleCheck l).core = l.core := by
  unfold settleCheck; split <;> simp

@[simp] theorem core_enterWaking (img : Bank) (l : Live) : (enterWaking img l).core = l.core := by
  have wakes : ∀ m : Live, (linkWakes m).core = m.core := by
    intro m
    unfold linkWakes
    split <;> simp
  unfold enterWaking
  dsimp only
  rw [wakes]
  split
  · rfl
  · rfl

@[simp] theorem core_wakeCheck (img : Bank) (l : Live) : (wakeCheck img l).core = l.core := by
  unfold wakeCheck; split <;> simp

/-! ### Notices (R37) -/

@[simp] theorem core_batteryNotice (img : Bank) (l : Live) : (batteryNotice img l).core = l.core := by
  unfold batteryNotice workOutAvail
  dsimp only
  repeat' split
  all_goals simp

/-- A slot notice reaches no slot, no counter and no mask (R37). -/
@[simp] theorem core_notify (img : Bank) (n : Fin 32) (l : Live) : (notify img n l).core = l.core := by
  unfold notify hazeNotice entryNotice recircNotice pressureNotice cabHazeNotice
  dsimp only
  repeat' split
  all_goals simp

@[simp] theorem core_notifyUnlessForced (img : Bank) (n : Fin 32) (l : Live) :
    (notifyUnlessForced img n l).core = l.core := by
  unfold notifyUnlessForced; split <;> simp

end Sys2Proof.Machine
end

