-- ==== Sys2Proof/Tests/Slice0.lean ====
section
/-! SUPPORT. Tests of the model: the well-formedness smoke, request frames written out from R185, worked values of the
spec, and for every statement with hypotheses a state and operands that meet them all. -/

namespace Sys2Proof.Tests

set_option Elab.async false

open Sys2Proof Sys2Proof.Machine

/-! ### Small states -/

/-- The part in RUN on the default image, on the bus, the link idle. -/
def run : State :=
  { State.reset with live :=
    { State.reset.live with
      part := { State.reset.live.part with state := .run }
      port := { State.reset.live.port with joined := true }
      link := { Link.initial with resetOwed := false } } }

def withLive (f : Live → Live) : State := { run with live := f run.live }

def withAir (f : Air → Air) : State := withLive fun l => { l with air := f l.air }

def withLink (f : Link → Link) : State := withLive fun l => { l with link := f l.link }

def withSequencer (f : Sequencer → Sequencer) : State := withLive fun l => { l with sequencer := f l.sequencer }

def withManagement (f : Management → Management) : State := withLive fun l => { l with management := f l.management }

def withPart (f : Part → Part) : State := withLive fun l => { l with part := f l.part }

def withPlaces (i : Fin 7) (p : Place) : State :=
  withLive fun l => { l with port := { l.port with places := (Vector.replicate 7 Place.empty).set i p } }

def withSlot (n : Fin 32) (s : Slot) : State := withLive fun l => { l with slots := l.slots.set n s }

/-- A FRESH slot since time 0 with a value. -/
def fresh (value : Int) : Slot :=
  { belief := .fresh, value := value, rank := 1, since := some 0, clamped := false, clampCount := 0, outranked := 0,
    forced := none }

def held : State := withPart fun p => { p with resetHeld := true }

/-- A node at address 1. -/
def node (state : NodeState) (failures : Nat) : Node :=
  { serial := 0x1234, address := 1, kind := 5, state := state, consecutive := failures, total := 7 }

/-- A request on the link, sent whole. -/
def onLink (owner : LinkOwner) (command : LinkCommand) (nodes : List Node) : State :=
  withLink fun k =>
    { k with
      onLink := some { owner := owner, address := 1, command := command, cls := .normal, joined := 0 }
      sent := true, directory := nodes }

/-- An item in flight of a role. -/
def item (r : Role) (kind : WorkKind) (phase : Phase) : Item :=
  { role := r, id := 4, kind := kind, level := 600, asked := 600, urgent := false, phase := phase, shed := false,
    shedOrder := none, issued := 0, deadline := some 50, poll := some 40 }

/-- The state of `onLink` with an item of the role in flight. -/
def inFlight (i : Item) (command : LinkCommand) : State :=
  let s := onLink (.item i.role i.id) command [node .bound 1]
  { s with live := { s.live with sequencer := { s.live.sequencer with inFlight := [i] } } }

/-- The default image with rule 2 enabled as ACTIVE. -/
def oneRuleActive : State := { run with active := [(32, 1)] }

/-- A reply with its correct check. -/
def replyOf (status : Byte) (payload : List Byte) : LinkReply :=
  { status := status, length := byte payload.length, payload := payload,
    check := byte ((256 - (status.toNat + payload.length + sumOf payload) % 256) % 256) }

/-- A base data frame. -/
def frame (ident : Nat) (data : List Byte) : BusFrame :=
  { format := .base, ident := ident, remote := false, dlc := data.length, data := data }

/-- The state after a command. -/
def after (c : Instr) (s : State) : State :=
  match exec c s with
  | .next t => t
  | _ => s

/-! ### Well-formedness: each check refuses an ill-formed term -/

theorem test_wf_identifier : (Instr.frameArrival (frame 2048 [])).wf = false := by decide
theorem test_wf_dlc : (Instr.frameArrival { frame 5 [] with dlc := 16 }).wf = false := by decide
theorem test_wf_data_length : (Instr.frameArrival { frame 5 [1] with dlc := 2 }).wf = false := by decide
theorem test_wf_remote_data : (Instr.frameArrival { frame 5 [1] with remote := true }).wf = false := by decide
theorem test_wf_reply_length :
    (Instr.moveReply { status := 0, length := 2, payload := [], check := 0 }).wf = false := by decide
theorem test_wf_unknown_request : (Instr.unknownRequest [0x01]).wf = false := by decide
theorem test_wf_slot_byte : (Instr.readSlot 256 0).wf = false := by decide
theorem test_wf_signed_value : (Instr.forceSlot 0 40000).wf = false := by decide
theorem test_wf_counted_data : (Instr.loadData 3 [1, 2]).wf = false := by decide
theorem test_wf_check_word : (Instr.activate 65536).wf = false := by decide
theorem test_wf_flaws_rise : (Instr.savePageProgrammed [(5, 1), (5, 2)]).wf = false := by decide
theorem test_wf_flaws_range : (Instr.savePageProgrammed [(2560, 1)]).wf = false := by decide
theorem test_wf_good : (Instr.frameArrival { frame 5 [1, 2, 3, 4, 5, 6, 7, 8] with dlc := 15 }).wf = true := by decide

/-! ### Request frames written out from R185 -/

theorem test_decode_load_point : decodeRequest [0x20, 0x03, 0x70] = some (.loadPoint 3 112) := by decide
theorem test_decode_activate : decodeRequest [0x25, 0x17, 0x4D] = some (.activate 0x4D17) := by decide
theorem test_decode_force_slot : decodeRequest [0x11, 0x00, 0x9C, 0xFF] = some (.forceSlot 0 (-100)) := by decide
theorem test_decode_node_read : decodeRequest [0x38, 0x02, 0x34, 0x12, 0x10] = some (.nodeRead 2 0x1234 16) := by decide
theorem test_decode_short : decodeRequest [0x20, 0x03] = none := by decide
theorem test_decode_unknown_code : decodeRequest [0x02] = none := by decide

/-! ### Start -/

theorem test_power_on_gives_reset : after .powerOn State.reset = State.reset := by decide +kernel

theorem test_reset_meets_the_forms :
    State.reset.imagesWf = true ∧ State.reset.countersWf = true ∧ State.reset.airWf = true ∧ State.reset.queueWf = true ∧
    State.reset.directoryWf = true := by
  decide +kernel

theorem witness_starts :
    startCause .powerOn run = some .powerOn ∧ startCause .resetPinRelease held = some .resetPin ∧
    startCause .restartDelayExpiry (withPart fun p => { p with restartTimer := some 20 }) = some .restart ∧
    startCause .transmitSuccess
      { withPart (fun p => { p with restartTimer := some 20 }) with live :=
        { (withPart fun p => { p with restartTimer := some 20 }).live with
          port := (withPlaces 0 (.sending { ident := 0x5DF, data := [0x51, 0] } none)).live.port } } = some .restart := by
  decide +kernel

theorem witness_start_answers : startCause .powerOn run = some .powerOn ∧ ∃ t, exec .powerOn run = .next t :=
  ⟨by decide +kernel, _, rfl⟩

theorem witness_good_store :
    storeGood { State.reset.store with check := some (bankCheck []) } = true ∧ storeGood State.reset.store = false := by
  decide +kernel

theorem witness_held : run.held = false ∧ held.held = true ∧ Instr.identify ≠ .resetPinRelease := by decide +kernel

theorem witness_empty_queue : State.reset.pending = [] := by decide

/-! ### Apparatus port -/

/-- A frame in a place. -/
def txFrame : TxFrame := { ident := 0x5FF, data := [1] }

theorem witness_sending :
    let s := withPlaces 2 (.sending txFrame none)
    s.held = false ∧ s.live.port.sendingPlace = some 2 ∧ s.live.port.places.get 2 = .sending txFrame none ∧
      restartSent s.live 2 = false := by
  decide +kernel

theorem witness_ready :
    let s := withPlaces 4 (.ready txFrame)
    s.held = false ∧ s.live.port.onBus = true ∧ s.live.port.sendingPlace = none ∧ s.live.port.places.get 4 = .ready txFrame ∧
      ∀ j : Fin 7, j < 4 → (s.live.port.places.get j).isReady = false := by
  decide +kernel

theorem witness_nothing_to_send :
    State.reset.live.port.onBus = false ∧ (withPlaces 2 (.sending txFrame none)).live.port.sendingPlace ≠ none ∧
      ∀ j : Fin 7, ((withPlaces 0 .empty).live.port.places.get j).isReady = false := by
  decide +kernel

/-- R7, worked sequence: E3 is placed while E2 is on the bus, and follows E2's error as READY; the count is 8. -/
theorem test_successor_after_error :
    let s := after (.transmitError false) (withPlaces 2 (.sending txFrame (some { ident := 0x5FF, data := [3] })))
    s.live.port.places.get 2 = .ready { ident := 0x5FF, data := [3] } ∧ s.live.port.txErrors = 8 := by
  decide +kernel

/-- The default image with wake pattern 0 enabled for every BASE frame. -/
def wakes : State := { withPart (fun p => { p with state := .watch }) with active := [(2403, 0x40)] }

theorem witness_frames :
    State.reset.live.port.onBus = false ∧ run.held = false ∧ run.live.port.onBus = true ∧
    ({ frame 5 [] with remote := true } : BusFrame).remote = true ∧
    ¬((frame 5 [1]).format = .base ∧ (frame 5 [1]).ident = 0x5C0 + run.live.port.unit.toNat) ∧
    run.live.part.state ≠ .watch ∧ wakes.live.part.state = .watch ∧
    (∀ k : Fin 4, (wakePattern [] k).matches { format := .base, ident := 5, data := [1] } = false) ∧
    (wakePattern wakes.active 0).matches { format := .base, ident := 5, data := [1] } = true := by
  decide +kernel

theorem witness_request_frames :
    ([0x01] : List Byte).length ≤ 8 ∧ decodeRequest [0x01] = some .identify ∧ run.live.part.state ≠ .watch ∧
    ¬(run.live.part.state = .waking ∧ run.live.link.state = .failed) ∧ (Request.loadPoint 3 112).wf = true := by
  decide +kernel

theorem witness_busy :
    (withManagement fun m => { m with inProgress := some .nodeRead }).live.management.inProgress ≠ none ∧
    (withManagement fun m => { m with inProgress := some .nodeRead }).live.part.state ≠ .watch ∧
    wakes.held = false ∧ wakes.live.port.onBus = true ∧ wakes.live.part.state = .watch := by
  decide +kernel

/-- The part in WAKING with the link FAILED, while a completion request is in progress. -/
def wakingFailed : State :=
  withLive fun l => { l with
    part := { l.part with state := .waking }, link := { l.link with state := .failed }
    management := { l.management with inProgress := some .nodeRead } }

theorem witness_waking_failed :
    wakingFailed.held = false ∧ wakingFailed.live.port.onBus = true ∧ wakingFailed.live.part.state = .waking ∧
    wakingFailed.live.link.state = .failed ∧ wakingFailed.live.management.inProgress ≠ none := by
  decide +kernel

/-- R183, R158: a frame on the request identifier that carries no request wakes the part, and is answered. -/
theorem test_unknown_request_wakes :
    let t := after (.unknownRequest [0x99]) wakes
    t.live.part.state = .waking ∧ (t.live.port.places.get 0).isReady = true := by
  decide +kernel

theorem witness_takes : run.takes = true ∧ State.reset.takes = false := by decide +kernel

/-- R11, R13: off the bus no frame is received, so no request is carried out. -/
theorem test_off_the_bus : after .identify State.reset = State.reset := by decide +kernel

/-! ### Frame classifier -/

/-- The haze rule of the worked example of chapter 2: 10 bits from bit 12, LITTLE. -/
def hazeRule : Rule :=
  { enabled := true, format := .base, veto := false, chain := false, signed := false, big := false, allOnes := true,
    minLen := 3, rank := 0, start := 12, width := 10, slot := 18, ident := 0, mask := 0, gain := 1024, offset := 0 }

/-- The pressure rule of the worked example of chapter 2: 16 bits from bit 16, BIG, signed. -/
def pressureRule : Rule :=
  { hazeRule with signed := true, big := true, allOnes := false, start := 16, width := 16, slot := 29 }

theorem test_extract_little : rawBits hazeRule [0, 0xA7, 0x2D] = 730 := by decide
theorem test_not_available : notAvailable hazeRule (rawBits hazeRule [0, 0xF7, 0x3F]) = true := by decide
theorem test_extract_big_signed : signRead pressureRule (rawBits pressureRule [0, 0, 0xFF, 0xE2]) = -30 := by decide

/-- The scaling table of chapter 2. -/
theorem test_scaling :
    scaled { hazeRule with gain := 10240, offset := -400 } 120 = 800 ∧ scaled { hazeRule with gain := 3000 } 37 = 108 ∧
    scaled { hazeRule with gain := 512 } (-5) = -3 ∧ scaled { hazeRule with gain := 512 } 5 = 3 ∧
    scaled { hazeRule with gain := -1536 } 100 = -150 ∧ scaled { hazeRule with gain := 0, offset := 1 } 77 = 1 := by
  decide

theorem witness_rule_fields :
    hazeRule.big = false ∧ pressureRule.big = true ∧ pressureRule.start % 8 = 0 ∧ pressureRule.width = 16 ∧
    ({ pressureRule with width := 8 } : Rule).width = 8 ∧ 1 ≤ pressureRule.width ∧ 65506 < 2 ^ pressureRule.width ∧
    pressureRule.signed = true ∧ hazeRule.signed = false := by
  decide

theorem witness_scaling_range :
    ({ hazeRule with gain := 0 } : Rule).gain = 0 ∧ (-65535 : Int) ≤ 65535 ∧ -32768 ≤ hazeRule.gain ∧
    hazeRule.gain ≤ 32767 ∧ -32768 ≤ hazeRule.offset ∧ hazeRule.offset ≤ 32767 := by
  decide

/-- The default image with rule 2 enabled for every BASE frame. -/
def oneRule : Bank := [(32, 1)]

theorem witness_first_match :
    let f : RxFrame := { format := .base, ident := 5, data := [1] }
    (∀ k, k < 2 → (ruleAt oneRule k).matches f = false) ∧ (ruleAt oneRule 2).matches f = true ∧
    ∀ k, k < 96 → (ruleAt [] k).matches f = false := by
  decide +kernel

theorem witness_scan :
    let s := withLive fun l => { l with port := { l.port with rxQueue := [{ format := .base, ident := 5, data := [1] }] } }
    s.held = false ∧ s.live.port.rxQueue = [{ format := .base, ident := 5, data := [1] }] ∧
    s.live.part.state ≠ .watch ∧ s.live.classifier.state = .idle ∧ run.live.port.rxQueue = [] := by
  decide +kernel

/-- Frame D of chapter 2: no rule matches, so UNCLAIMED becomes 1. -/
theorem test_unclaimed :
    (after .scanFrame (withLive fun l => { l with port := { l.port with
      rxQueue := [{ format := .base, ident := 0x42F, data := [1, 2, 3, 4, 5, 6, 7, 8] }] } })).live.classifier.unclaimed =
      1 := by
  decide +kernel

theorem witness_latch_rule :
    (hazeRule.allOnes = true ∧ rawBits hazeRule [0, 0xF7, 0x3F] = 2 ^ hazeRule.width - 1) ∧
    ¬(hazeRule.allOnes = true ∧ rawBits hazeRule [0, 0xA7, 0x2D] = 2 ^ hazeRule.width - 1) := by
  decide

/-! ### Signal slots -/

/-- The default image with slot 0 disabled. -/
def slotOff : Bank := [(1536, 0)]

/-- The default image with a hold time of 0 in slot 0. -/
def noHold : Bank := [(1538, 0)]

theorem witness_offers :
    (slotDef slotOff 0).enabled = false ∧ (slotDef [] 0).enabled = true ∧ (fresh 85).belief = .fresh ∧
    (fresh 85).rank < 2 ∧ ¬((fresh 85).belief = .fresh ∧ (fresh 85).rank < 0) ∧ (fresh 85).since = some 0 ∧
    ¬(0 + ((slotDef noHold 0).maxAge + (slotDef noHold 0).holdTime) * 100 ≤ run.live.now) ∧
    0 + ((slotDef noHold 0).maxAge + (slotDef noHold 0).holdTime) * 100 ≤ 2000 := by
  decide +kernel

/-- R44, third line: an offer taken first with the lapse of a slot of hold_time 0 is accepted at any rank; one millisecond
before, R38 outranks it. -/
theorem test_offer_with_the_lapse :
    let at' := fun now => { (withSlot 0 (fresh 85)).live with now := now }
    ((offerSlot noHold 0 90 2 (at' 2000)).slots.get 0).value = 90 ∧
      ((offerSlot noHold 0 90 2 (at' 1999)).slots.get 0).value = 85 := by
  decide +kernel

/-- The worked example of chapter 3: rank 1 is beaten by rank 0, and the slot keeps 85. -/
theorem test_outranked :
    let l := offerSlot [] 0 90 1 (offerSlot [] 0 85 0 run.live)
    (l.slots.get 0).value = 85 ∧ (l.slots.get 0).outranked = 1 := by
  decide +kernel

theorem witness_expiries :
    (withSlot 0 (fresh 86)).held = false ∧ ((withSlot 0 (fresh 86)).live.slots.get 0).since = some 0 ∧
    ((withSlot 0 (fresh 86)).live.slots.get 0).belief = .fresh ∧ (slotDef [] 0).holdTime ≠ 0 ∧
    (slotDef noHold 0).holdTime = 0 ∧
    ((withSlot 0 { fresh 86 with belief := .stale }).live.slots.get 0).belief = .stale ∧
    ((withSlot 0 { fresh 86 with belief := .lapsed }).live.slots.get 0).belief = .lapsed := by
  decide +kernel

/-- The worked example of chapter 3: the slot goes STALE at 2,000 ms of age with its value. -/
theorem test_stale :
    let s := after (.slotStaleExpiry 0) (withSlot 0 (fresh 86))
    (s.live.slots.get 0).belief = .stale ∧ (s.live.slots.get 0).value = 86 ∧ s.live.now = 2000 := by
  decide +kernel

theorem witness_presented :
    ((withSlot 0 { fresh 5 with forced := some 7 }).live.slots.get 0).forced = some 7 ∧
    ((withSlot 0 (fresh 5)).live.slots.get 0).forced = none ∧ (run.live.slots.get 0).belief = .never := by
  decide +kernel

/-! ### Air source controller -/

/-- The haze heads of the worked example of chapter 4, HAZE_1 at 220 with weight 300 and HAZE_2 at 90 with weight 512. -/
def hazy : State :=
  { withLive (fun l => { l with slots := (l.slots.set 17 (fresh 220)).set 18 (fresh 90) }) with
    active := [(2432, 0x2C), (2433, 0x01), (2434, 0), (2435, 2)] }

/-- The worked example of chapter 4: X is 257. -/
theorem test_index : indexNow hazy.active hazy.live = some 257 := by decide +kernel

theorem witness_index : indexNow [] run.live = none ∧ indexNow hazy.active hazy.live = some 257 := by decide +kernel

theorem witness_issue : run.live.part.state = .run ∧ State.reset.live.part.state ≠ .run := by decide +kernel

/-- The controller in a mode with an index and every timer at 5. -/
def inMode (mode : Mode) (reason : Option Reason) (x : Option Nat) : State :=
  withAir fun a =>
    { a with mode := mode, reason := reason, index := x, rise := some 5, unknown := some 5, fall := some 5,
             purge := some 5, purgeLimit := some 5 }

theorem witness_mode_timers :
    let s := inMode .fresh none (some 200)
    (presented s.active s.live.slots recircSlot).isTrue = false ∧ s.held = false ∧ s.live.air.mode = .fresh ∧
    s.live.air.rise = some 5 ∧ s.live.air.index = some 200 ∧ shieldOn s.active ≤ 200 ∧ 200 < closeOn s.active ∧
    clearBelow s.active ≤ shieldOn s.active ∧
    (inMode .fresh none none).live.air.unknown = some 5 ∧ (inMode .fresh none none).live.air.index = none ∧
    (inMode .shield (some .haze) (some 10)).live.air.fall = some 5 ∧ 10 < closeOn s.active ∧ 10 < shieldOn s.active ∧
    (inMode .closed (some .haze) (some 10)).live.air.reason = some .haze ∧ fallDwell s.active ≠ 0 ∧
    (inMode .purge none (some 10)).live.air.purge = some 5 ∧ (inMode .purge none (some 10)).live.air.purgeLimit = some 5 := by
  decide +kernel

theorem witness_recirc_and_cab_haze :
    (presented [] (withSlot recircSlot (fresh 1)).live.slots recircSlot).isTrue = true ∧
    (presented [] run.live.slots cabHazeSlot).valid = false ∧
    ¬((presented [] (withSlot cabHazeSlot (fresh 900)).live.slots cabHazeSlot).valid = false ∨
      (presented [] (withSlot cabHazeSlot (fresh 900)).live.slots cabHazeSlot).value ≤ (clearBelow [] : Int)) := by
  decide +kernel

/-- R58: the rise timer's expiry in FRESH enters SHIELD with reason HAZE, and FILTER takes shield_f. -/
theorem test_rise :
    let s := after .riseTimerExpiry (inMode .fresh none (some 200))
    s.live.air.mode = .shield ∧ s.live.air.reason = some .haze ∧ s.live.air.filter = 400 ∧ s.live.air.recirc = 600 := by
  decide +kernel

/-- The default image with every dwell of the condition timers at 0. -/
def noDwell : Bank := [(2448, 0), (2450, 0), (2451, 0), (2452, 0)]

theorem witness_evaluations :
    let a := fun m r x => (inMode m r x).live.air
    shieldOn [] ≤ 200 ∧ (a .fresh none (some 200)).index = some 200 ∧ (a .fresh none none).index = none ∧
    (a .shield (some .haze) (some 79)).index = some 79 ∧ 79 < clearBelow [] ∧
    (a .closed (some .haze) (some 299)).reason = some .haze ∧ 299 < closeOff [] ∧
    (a .closed (some .manual) (some 10)).reason = some .manual ∧ (a .purge none none).mode = .purge ∧
    State.reset.live.air.rise = none ∧ riseDwell [] ≠ 0 ∧ unknownDwell [] ≠ 0 ∧ fallDwell [] ≠ 0 ∧
    riseDwell noDwell = 0 ∧ unknownDwell noDwell = 0 ∧ fallDwell noDwell = 0 := by
  decide +kernel

/-- R57, R58: with a rise dwell of 0 a haze notice at the threshold shields at once. -/
theorem test_rise_at_once :
    let s := withLive fun l => { l with
      slots := (l.slots.set 17 (fresh 150)), air := { l.air with mode := .fresh, reason := none, unknown := none } }
    let m := notify noDwell (hazeSlot 0) s.live
    m.air.mode = .shield ∧ m.air.reason = some .haze := by
  decide +kernel

theorem witness_boost :
    let entered := withSlot entrySlot (fresh 1)
    (presented entered.active entered.live.slots entrySlot).isTrue = true ∧ entered.live.air.mode = .shield ∧
    ¬((inMode .fresh none none).live.air.mode = .shield ∨ (inMode .fresh none none).live.air.mode = .closed) ∧
    (withAir fun a => { a with boost := .active }).live.air.boost = .active ∧ run.live.air.boost ≠ .active ∧
    (withAir fun a => { a with boost := .tail, boostTail := some 9 }).live.air.boostTail = some 9 := by
  decide +kernel

/-! ### Zone planner -/

/-- The context and the profile of the worked example of chapter 5. -/
def passExample : PassContext :=
  { tc := 39, th := 680, spanMin := 30, defrost := false, mode := .fresh, boosting := false, boostLevel := 350,
    shieldFloor := 300 }

def profileExample : Profile :=
  { enabled := true, kp := 32, ki := 8, gw := 40, setpoint := 210, sLo := 150, sHi := 300, ilim := 4000, wmin := 200,
    wmax := 900 }

/-- The worked example of chapter 5 for zone 1: I 808, D 410, B 579, W 550, outlet FEET, D_raw 410. -/
theorem test_pass_example :
    planZone passExample profileExample 1 { value := 150, valid := true } { value := 220, valid := true }
      { value := 0, valid := true } { Zone.initial with integrator := 800 } =
    ({ planned := true, integrator := 808, blend := 579, demand := 410, level := 550, outlet := 667, openLoop := false,
       spanLow := false, defrostFlag := false }, 410) := by
  decide +kernel

/-- With no temperature presented Th is Tc: zones 0 to 2 set SPAN_LOW in turn and the newest latch stands (R79, R81, R86, R174);
a second pass finds every flag set already. -/
theorem test_span_low_is_latched_by_each_zone_in_turn :
    let rises := fun l : Live => (List.finRange 4).filter fun z =>
      ((computePass run.active l).planner.zones.get z).spanLow && !(l.planner.zones.get z).spanLow
    let t := computePass run.active run.live
    rises run.live = [0, 1, 2] ∧ t.events.latched.get kSpanLow = some 2 ∧ t.events.owed = true ∧ rises t = [] := by
  decide +kernel

theorem witness_closed_loop :
    ({ value := 150, valid := true } : Presented).valid = true ∧ (passExample.defrost = true → (1 : Fin 4) ≠ 0) ∧
    passExample.tc ≤ passExample.th ∧ (passExample.spanMin : Int) ≤ passExample.th - passExample.tc ∧
    1 ≤ passExample.spanMin ∧ (60 : Int) - 39 < passExample.spanMin := by
  decide

theorem witness_pass :
    let s := withLive fun l => { l with planner := { l.planner with timer := some 500 } }
    s.held = false ∧ s.live.planner.timer = some 500 ∧ zonePlanned s.active s.live (defrostNow s.active s.live) 0 = true ∧
    zonePlanned s.active s.live (defrostNow s.active s.live) 3 = false := by
  decide +kernel

theorem witness_stages :
    let bound : List (Fin 4) := [0, 1]
    let none := Vector.replicate 4 false
    let first : Vector Bool 4 := none.set 0 true
    bound = allStages.filter (fun n => bound.contains n) ∧ (allStages.filter fun n => none.get n).length = 0 ∧
    (allStages.filter fun n => first.get n).length = 1 ∧ (∀ m : Fin 4, m < 1 → m ∈ bound → first.get m = true) ∧
    (∀ m : Fin 4, 0 < m → first.get m = false) ∧ ∀ n : Fin 4, n ∈ ([0] : List (Fin 4)) → first.get n = true := by
  decide +kernel

/-! ### Load budget -/

/-- A consumer at an accepted level with its commitment. -/
def counted (accepted commitment : Nat) : Consumer := { accepted := accepted, transit := none, commitment := commitment }

/-- The account of the worked example of chapter 6: 191 committed of 225. -/
def account : Budget :=
  let idle : Vector Consumer 20 := Vector.replicate 20 (counted 0 0)
  let blowers := (idle.set 12 (counted 550 44)).set 13 (counted 700 42)
  { Budget.initial 225 with consumers := (blowers.set 16 (counted 1000 90)).set 5 (counted 0 15) }

theorem test_stage_waits : account.committed = 191 ∧ askSet [] 17 1000 account = (.wait, account) := by decide +kernel

theorem test_blower_capped : (askSet [] 14 800 account).1 = .capped 566 ∧ (askSet [] 14 800 account).2.committed = 225 := by
  decide +kernel

theorem witness_stage_sets :
    16 ≤ (17 : Role).val ∧ (account.consumers.get 17).accepted = 0 ∧ account.avail < account.committed - 0 + stageCurrent [] ∧
    (Budget.initial 225).committed - 0 + stageCurrent [] ≤ (Budget.initial 225).avail := by
  decide +kernel

theorem witness_motions :
    (account.consumers.get 5).commitment ≠ 0 ∧ (account.consumers.get 0).commitment = 0 ∧ motionCurrent [] ≠ 0 ∧
    account.committed + motionCurrent [] ≤ account.avail ∧
    ({ account with avail := 200 } : Budget).avail < ({ account with avail := 200 } : Budget).committed + motionCurrent [] := by
  decide +kernel

theorem witness_blower_sets :
    12 ≤ (14 : Role).val ∧ (14 : Role).val < 16 ∧ (account.consumers.get 14).accepted < 800 ∧
    account.avail < 191 + (800 * blowerRated [] 2 + 999) / 1000 ∧ blowerRated [] 2 ≠ 0 ∧
    (account.consumers.get 14).accepted < min 800 ((account.avail - 191) * 1000 / blowerRated [] 2) ∧
    191 + (500 * blowerRated [] 2 + 999) / 1000 ≤ account.avail ∧ 0 ≤ (account.consumers.get 14).accepted ∧
    min 800 ((191 - 191) * 1000 / blowerRated [] 2) ≤ (account.consumers.get 14).accepted ∧
    blowerRated [(2504, 0)] 2 = 0 := by
  decide +kernel

/-- R105, R106: 49 over, STAGE_1 is taken off for its 90, and blower 3 stays. -/
def overloaded : Live := { run.live with budget := { account with avail := 142 } }

theorem witness_shedding :
    let shed := { overloaded.budget with shedList := [{ role := 16, level := 0 }] }
    (191 : Int) - 142 = 49 ∧ overloaded.budget.committed = 191 ∧ (overloaded.sequencer.actuators.get 16).state = .absent ∧
    ({ shed with avail := 142 } : Budget).shedList.any (fun e => e.role == 16) = true ∧
    (overloaded.budget.consumers.get 16).commitment = stageCurrent [] ∧ itemOf overloaded 16 = none ∧
    queueEntry overloaded 16 = none ∧ blowerRated [] 0 ≠ 0 ∧ ((profile [] 0).wmin * blowerRated [] 0 + 999) / 1000 < 44 := by
  decide +kernel

theorem test_shed_takes_the_stage :
    let idle := fun r : Role => { overloaded with sequencer := { overloaded.sequencer with
      actuators := overloaded.sequencer.actuators.set r { Actuator.initial with state := .idle } } }
    (testShed [] (idle 16)).budget.shedList = [{ role := 16, level := 0 }] ∧
    (testShed [] (idle 16)).events.latched.get kLoadShed = some 142 ∧
    queueEntry (testShed [] (idle 16)) 16 =
      some { role := 16, kind := .set, level := 0, urgent := true, holdOff := none, shed := true } := by
  decide +kernel

/-- R182: in WATCH nothing is shed and the Move Queue stays empty, even where a stage is IDLE and avail is exceeded. -/
theorem test_nothing_shed_in_watch :
    let parked := { overloaded with
      part := { overloaded.part with state := .watch }
      sequencer := { overloaded.sequencer with
        actuators := overloaded.sequencer.actuators.set 16 { Actuator.initial with state := .idle } } }
    (testShed [] parked).sequencer.queue = [] ∧ (testShed [] parked).budget.shedList = [] := by
  decide +kernel

/-! ### Actuator sequencer -/

/-- A queue entry with a hold-off. -/
def waiting : QueueEntry := { role := 4, kind := .move, level := 600, urgent := false, holdOff := some 30, shed := false }

theorem witness_sequencer_timers :
    (queueEntry (withSequencer fun q => { q with queue := [waiting] }).live 4).bind (·.holdOff) = some 30 ∧
    ((withSequencer fun q => { q with actuators := q.actuators.set 4 { Actuator.initial with guardTime := some 9 } }).live
      |>.sequencer.actuators.get 4).guardTime = some 9 ∧
    itemOf (inFlight (item 4 .move .running) (.move 0 600)).live 4 = some (item 4 .move .running) ∧
    (item 4 .move .running).poll = some 40 ∧ (item 4 .move .running).deadline = some 50 ∧
    (inFlight (item 4 .move .running) (.move 0 600)).held = false := by
  decide +kernel

/-- The default image with role 4 bound to node 0x1234 by a deadband of 20. -/
def boundFour : Bank := [(2080, 0x34), (2081, 0x12), (2085, 20), (2086, 50)]

/-- Role 4 in a state, at rest or with its work in the queue or the suspended place. -/
def resting (state : ActuatorState) (queue : List QueueEntry) (suspended : Option Suspended) : Live :=
  (withSequencer fun q => { q with
    actuators := q.actuators.set 4 { Actuator.initial with state := state, position := 300 }
    queue := queue, suspended := suspended }).live

theorem witness_target_arrivals :
    (∀ state : ActuatorState, itemOf (resting state [] none) 4 = none) ∧
    ((resting .idle [] none).sequencer.actuators.get 4).state = .idle ∧ queueEntry (resting .uncertain [] none) 4 = none ∧
    queueEntry (resting .queued [waiting] none) 4 = some waiting ∧ waiting.shed = false ∧
    queueEntry (resting .queued [{ waiting with shed := true }] none) 4 = some { waiting with shed := true } ∧
    (resting .suspended [] (some { role := 4, level := 600, position := 300 })).sequencer.suspended =
      some { role := 4, level := 600, position := 300 } ∧
    (binding boundFour 4).deadband = 20 ∧ max 300 320 - min 300 320 = 20 ∧
    (∀ why : HaltReason, itemOf (inFlight (item 4 .move (.halting why)) (.halt 0)).live 4 =
      some (item 4 .move (.halting why))) ∧
    itemOf (inFlight (item 4 .move .issuing) (.move 0 600)).live 4 = some (item 4 .move .issuing) ∧
    itemOf (inFlight (item 4 .home .running) (.query 0)).live 4 = some (item 4 .home .running) ∧
    itemOf (inFlight (item 12 .set .issuing) (.set 0 600)).live 12 = some (item 12 .set .issuing) :=
  ⟨by intro state; cases state <;> decide +kernel, by decide +kernel, by decide +kernel, by decide +kernel,
    by decide +kernel, by decide +kernel, by decide +kernel, by decide +kernel, by decide +kernel,
    by intro why; cases why <;> decide +kernel, by decide +kernel, by decide +kernel, by decide +kernel⟩

/-- R118: at 320, 20 from the position, the deadband of 20 holds and nothing is queued; at 321 the move is. -/
theorem test_deadband_boundary :
    (arrivalBody boundFour 4 { level := 320, urgent := false } (resting .idle [] none)).sequencer.queue = [] ∧
    (arrivalBody boundFour 4 { level := 321, urgent := false } (resting .idle [] none)).sequencer.queue =
      [{ role := 4, kind := .move, level := 321, urgent := false, holdOff := none, shed := false }] := by
  decide +kernel

theorem witness_offer :
    let on := fun state => (withLink fun k => { k with directory := [node state 0] }).live
    let early := { item 4 .move .running with issued := 3 }
    let late := { item 5 .move .running with issued := 7 }
    let two := { run.live.sequencer with inFlight := [early, late] }
    nodeAddress [] run.live 4 = none ∧ nodeAddress boundFour (on .excluded) 4 = some 1 ∧
    nodeStateOf boundFour (on .excluded) 4 = some .excluded ∧ nodeStateOf boundFour (on .bound) 4 ≠ some .excluded ∧
    (askMotion [] 4 (Budget.initial 225)).1 = .admitted ∧ (askMotion [] 4 (Budget.initial 0)).1 = .wait ∧
    (askSet [] 14 800 account).1 = .capped 566 ∧ (askSet [] 14 800 { account with avail := 0 }).1 = .held ∧
    run.live.part.state = .run ∧ State.reset.live.part.state = .starting ∧ run.live.sequencer.armed = true ∧
    run.live.sequencer.suspended = none ∧ run.live.sequencer.inFlight = [] ∧
    two.inFlight.filter (fun i => i.kind == .move && !i.urgent && i.phase == .running) = [early] ++ late :: [] ∧
    early.issued < late.issued ∧ (waiting.holdOff ≠ none) := by
  decide +kernel

/-- R123: the move issued last is the one halted. -/
theorem test_suspends_the_latest :
    let early := { item 4 .move .running with issued := 3 }
    let late := { item 5 .move .running with issued := 7 }
    let s := withSequencer fun q => { q with inFlight := [early, late] }
    (trySuspend [] s.live).sequencer.inFlight.map (·.phase) = [.running, .halting .suspend] := by
  decide +kernel

/-- The MOVE of role 4 on the link, ISSUING, with a pending target or without. -/
def issuing (pending : Option Target) : State :=
  let s := inFlight (item 4 .move .issuing) (.move 0 600)
  { s with live := { s.live with sequencer := { s.live.sequencer with
      actuators := s.live.sequencer.actuators.set 4 { Actuator.initial with pendingTarget := pending } } } }

theorem witness_accepted_motion :
    let s := issuing none
    s.held = false ∧ s.live.link.onLink.any isMove = true ∧ s.live.link.sent = true ∧
    s.live.link.onLink.map (·.owner) = some (.item 4 4) ∧ replyEnding (.move 0 600) (replyOf 0 []) = .accept ∧
    itemOf s.live 4 = some (item 4 .move .issuing) ∧ (s.live.sequencer.actuators.get 4).pendingTarget = none ∧
    ((issuing (some { level := 300, urgent := false })).live.sequencer.actuators.get 4).pendingTarget =
      some { level := 300, urgent := false } ∧
    (inFlight (item 4 .home .issuing) (.home 0)).live.link.onLink.any isHome = true ∧
    replyEnding (.home 0) (replyOf 0 []) = .accept := by
  decide +kernel

theorem witness_accepted_set :
    let s := inFlight (item 12 .set .issuing) (.set 0 600)
    s.held = false ∧ s.live.link.onLink.any isSet = true ∧ replyEnding (.set 0 600) (replyOf 0 []) = .accept ∧
    s.live.link.onLink.map (·.owner) = some (.item 12 4) ∧ itemOf s.live 12 = some (item 12 .set .issuing) := by
  decide +kernel

/-- R104: the accepted level becomes the level in transit. -/
theorem test_set_accepted :
    let s := inFlight (item 12 .set .issuing) (.set 0 600)
    let c : Consumer := { accepted := 0, transit := some 600, commitment := 48 }
    let t := after (.setReply (replyOf 0 []))
      { s with live := { s.live with budget := { s.live.budget with consumers := s.live.budget.consumers.set 12 c } } }
    t.live.budget.consumers.get 12 = { accepted := 600, transit := none, commitment := 48 } ∧
      t.live.sequencer.inFlight = [] := by
  decide +kernel

/-- An item's request is on the link, sent whole, and the item still stands once the reply has been counted. -/
def replied (i : Item) (c : LinkCommand) (answer : LinkReply) : Bool :=
  let s := inFlight i c
  let q : LinkRequest := { owner := .item i.role 4, address := 1, command := c, cls := .normal, joined := 0 }
  s.live.link.onLink == some q && s.live.link.sent &&
    itemOf (countTransaction s.active q (replyEnding c answer) s.live) i.role == some i

theorem witness_refused_and_failed :
    let shed := { item 12 .set .issuing with shed := true }
    let kept := { item 12 .set .issuing with shedOrder := some 100 }
    let off := { item 12 .set .issuing with level := 0, asked := 0 }
    replied (item 4 .move .issuing) (.move 0 600) (replyOf 1 []) = true ∧
    replied (item 4 .home .issuing) (.home 0) (replyOf 1 []) = true ∧
    replied (item 12 .set .issuing) (.set 0 600) (replyOf 1 []) = true ∧ replied shed (.set 0 600) (replyOf 9 []) = true ∧
    replied kept (.set 0 600) (replyOf 1 []) = true ∧ replied off (.set 0 0) (replyOf 1 []) = true ∧
    replied (item 4 .move .issuing) (.move 0 600) (replyOf 2 []) = true ∧
    replied (item 12 .set .issuing) (.set 0 600) (replyOf 3 []) = true ∧
    replyEnding (.move 0 600) (replyOf 1 []) = .busy ∧ replyEnding (.set 0 600) (replyOf 9 []) = .failure ∧
    replyEnding (.move 0 600) (replyOf 2 []) = .range ∧ replyEnding (.set 0 600) (replyOf 3 []) = .fault := by
  decide +kernel

/-- A SET of a blower in flight at the entry to SETTLING, its off target pending. -/
def settlingSet (i : Item) : State :=
  let s := inFlight i (.set 0 i.level)
  let l := setPending i.role (some offTarget) { s.live with part := { s.live.part with state := .settling } }
  { s with live := l }

theorem witness_settling_set :
    let s := settlingSet { item 12 .set .issuing with level := 0, asked := 0 }
    s.live.part.state ≠ .run ∧ (s.live.sequencer.actuators.get 12).pendingTarget = some { level := 0, urgent := true } ∧
    ((inFlight (item 12 .set .issuing) (.set 0 600)).live.sequencer.actuators.get 12).pendingTarget = none := by
  decide +kernel

/-- R134: a NORMAL SET of level 0 that was in flight at the entry to SETTLING ends BUSY, and the pending off target is placed
as an URGENT SET with the hold-off of the retry time. -/
theorem test_settling_set_busy :
    let s := settlingSet { item 12 .set .issuing with level := 0, asked := 0 }
    (after (.setReply (replyOf 1 [])) s).live.sequencer.queue =
      [{ role := 12, kind := .set, level := 0, urgent := true, holdOff := some 100, shed := false }] := by
  decide +kernel

/-- R122, R121: a SET capped to 600 of the 800 asked for returns to the queue with 800. -/
theorem test_capped_returns_as_asked :
    let t := after (.setReply (replyOf 1 [])) (inFlight { item 12 .set .issuing with asked := 800 } (.set 0 600))
    t.live.sequencer.queue.map (fun e => (e.level, e.holdOff)) = [(800, some 100)] := by
  decide +kernel

theorem witness_halt_and_poll :
    let halting := fun why => inFlight (item 4 .move (.halting why)) (.halt 0)
    (halting .supersede).live.link.onLink.any isHalt = true ∧
    replyEnding (.halt 0) (replyOf 0 [0x01, 0x90]) = .position 400 ∧
    itemOf (halting .supersede).live 4 = some (item 4 .move (.halting .supersede)) ∧
    itemOf (halting .deadline).live 4 = some (item 4 .move (.halting .deadline)) ∧
    itemOf (halting .suspend).live 4 = some (item 4 .move (.halting .suspend)) ∧
    replyEnding (.halt 0) (replyOf 1 []) = .busy ∧
    (inFlight (item 4 .move .running) (.query 0)).live.link.onLink.any isPoll = true ∧
    replyEnding (.query 0) (replyOf 0 [0x01, 0x90, 1]) = .motion 400 1 := by
  decide +kernel

/-! ### Cab link -/

/-- R139: address, command, length and payload that add up to 0x1D3 have the check 0x2D. -/
theorem test_reply_check : (replyOf 0 [0xFF, 0xD2]).check = 0x2D := by decide

theorem witness_arbiter :
    let r : LinkRequest := { owner := .probe, address := 1, command := .query 0, cls := .probe, joined := 0 }
    let l := (withLink fun k => { k with requests := [r] }).live
    l.link.state = .running ∧ l.link.onLink = none ∧ chooseRequest l.link.requests = some r ∧
    run.live.link.requests = [] := by
  decide +kernel

theorem witness_link_frames :
    (replyOf 0 []).payload.length = (replyOf 0 []).length.toNat ∧
    ((replyOf 0 []).status.toNat + (replyOf 0 []).length.toNat + sumOf (replyOf 0 []).payload +
      (replyOf 0 []).check.toNat) % 256 = 0 ∧
    ¬((0 + 0 + 0 + (1 : Byte).toNat) % 256 = 0) := by
  decide

theorem witness_short_requests (wide : Bool) (register : Nat) (data : List Byte)
    (h : LinkCommand.query 0 = .write wide register data) : data.length ≤ 16 := by
  cases h

theorem witness_counts :
    let s := onLink .probe (.query 0) [node .bound 1]
    s.held = false ∧ s.live.link.onLink ≠ none ∧ { s.live.link with sent := false }.sent = false ∧
    { s.live.link with replyWindow := some 8 }.replyWindow = some 8 ∧ s.live.link.nodeAt 1 = some (node .bound 1) ∧
    (node .bound 1).consecutive < 2 ∧ 2 ≤ (node .bound 2).consecutive ∧ (node .bound 2).consecutive ≤ 3 ∧
    (node .lost 3).state = .lost := by
  decide +kernel

/-- A window access that waits in the list. -/
def waitingAccess : State :=
  withLive fun l => { l with
    management := { l.management with inProgress := some .nodeRead }
    link := { l.link with requests :=
      [{ owner := .window, address := 1, command := .read false 0x10 4, cls := .window, joined := 0 }] } }

theorem witness_deliveries :
    let s := inFlight (item 12 .set .issuing) (.set 0 600)
    itemOf s.live 12 = some (item 12 .set .issuing) ∧ (item 12 .set .issuing).id = 4 ∧ itemOf run.live 12 = none ∧
    (onLink .probe (.query 0) [node .lost 3]).live.link.nodeAt 1 = some (node .lost 3) ∧
    waitingAccess.live.management.inProgress = some .nodeRead ∧
    (waitingAccess.live.link.requests.any fun q => q.owner == .window) = true ∧ run.live.link.requests = [] := by
  decide +kernel

/-- R155, R158: a cancelled access leaves the list, frees the unit and is answered. -/
theorem test_cancel_access :
    let t := cancelAccess 11 waitingAccess.live
    t.link.requests = [] ∧ t.management.inProgress = none ∧
      t.port.places.get 0 = .ready { ident := 0x5DF, data := [0x38, 11, 0, 0, 0, 0, 0, 0] } := by
  decide +kernel

/-- A round on the link, sent whole. -/
def round (nodes : List Node) : State :=
  let s := onLink .rollcall (.rollcall false) nodes
  { s with live := { s.live with link := { s.live.link with series := some { winner := none, failedBinds := [] } } } }

/-- Sixteen nodes. -/
def sixteen : List Node := (List.range 16).map fun k => { node .spare 0 with serial := 100 + k, address := k + 1 }

theorem witness_rounds :
    (round []).held = false ∧ (round []).live.link.onLink.any isRound = true ∧ (round []).live.link.sent = true ∧
    (round []).live.link.nodeOf 0x3C001A04 = none ∧ (round []).live.link.directory.length < 16 ∧
    (round []).live.link.nodeAt 1 = none ∧ (round [node .bound 0]).live.link.nodeOf 0x1234 = some (node .bound 0) ∧
    16 ≤ (round sixteen).live.link.directory.length ∧ (round sixteen).live.link.nodeOf 0x3C001A04 = none ∧
    ¬((0x3C001A04 : BitVec 32) = 0xFFFFFFFF ∧ (0x21 : BitVec 8) = 0xFF) ∧ (0x3C001A04 : BitVec 32) ≠ 0 ∧
    wakes.live.part.state = .watch := by
  decide +kernel

/-- The worked example of chapter 8: the first winner is bound to address 1, by the BIND on the link next. -/
theorem test_round_winner :
    (after (.rollcallRoundEnd 0x3C001A04 0x21) (round [])).live.link.onLink =
      some { owner := .rollcall, address := 0, command := .bind 0x3C001A04 1, cls := .rollcall, joined := 0 } := by
  decide +kernel

/-- A BIND on the link, with the serials whose BIND has failed before. -/
def binding (failed : List Nat) (nodes : List Node) : State :=
  let s := onLink .rollcall (.bind 0x1234 1) nodes
  let x : Series := { winner := some (0x1234, 0x21), failedBinds := failed }
  { s with live := { s.live with link := { s.live.link with series := some x } } }

theorem witness_binds :
    (binding [] []).held = false ∧ (binding [] []).live.link.sent = true ∧
    (binding [] []).live.link.onLink.map (·.command) = some (.bind 0x1234 1) ∧
    replyEnding (.bind 0x1234 1) (replyOf 0 []) = .accept ∧ (binding [] []).live.link.nodeOf 0x1234 = none ∧
    (binding [] [node .lost 3]).live.link.nodeOf 0x1234 = some (node .lost 3) ∧
    (binding [] [node .bound 0]).live.link.nodeOf 0x1234 = some (node .bound 0) ∧
    (binding [] [node .spare 0]).live.link.nodeOf 0x1234 = some (node .spare 0) ∧
    (binding [] [node .excluded 0]).live.link.nodeOf 0x1234 = some (node .excluded 0) ∧
    replyEnding (.bind 0x1234 1) (replyOf 1 []) ≠ .accept ∧ 0x1234 ∈ [0x1234] ∧ 0x1234 ∉ ([] : List Nat) := by
  decide +kernel

/-- The worked example of chapter 8: an accepted BIND makes the entry; no binding names the node, so it is SPARE. -/
theorem test_bind_makes_entry :
    (after (.bindReply (replyOf 0 [])) (binding [] [])).live.link.directory =
      [{ serial := 0x1234, address := 1, kind := 0x21, state := .spare, consecutive := 0, total := 0 }] := by
  decide +kernel

/-- The series that a round or BIND on the link had at the entry to WATCH. -/
def leftOver (s : State) : State :=
  { s with live := { s.live with link :=
    { s.live.link with series := none, leftOver := some { winner := some (0x1234, 0x21), failedBinds := [] } } } }

theorem witness_left_over :
    (leftOver (round [])).live.link.leftOver ≠ none ∧ (round []).live.link.leftOver = none ∧
    (leftOver (binding [] [])).live.link.leftOver = some { winner := some (0x1234, 0x21), failedBinds := [] } ∧
    entryFits (binding [] []).live.link 0x1234 1 = true ∧ entryFits (binding [] []).live.link 0 1 = false ∧
    entryFits (binding [] []).live.link 0x1234 17 = false ∧ entryFits (round sixteen).live.link 0x1234 16 = false := by
  decide +kernel

/-- Log entry 28: a BIND left over from before WATCH makes its entry, and no round follows it. -/
theorem test_left_over_bind :
    let t := after (.bindReply (replyOf 0 [])) (leftOver (binding [] []))
    t.live.link.directory.map (·.kind) = [0x21] ∧ t.live.link.onLink = none ∧ t.live.link.leftOver = none := by
  decide +kernel

theorem witness_rollcall_and_probes :
    (withLink fun k => { k with rollcallTimer := some 2000, directory := [node .lost 3] }).live.link.rollcallTimer =
      some 2000 ∧
    (∃ n ∈ [node .lost 3], n.state = .lost) ∧ run.live.link.series = none ∧ (round []).live.link.series ≠ none ∧
    (withLink fun k => { k with probeTimer := some 1000 }).live.link.probeTimer = some 1000 ∧
    (onLink .probe (.query 0) []).live.link.onLink ≠ none ∧
    (onLink .probe (.query 0) [node .lost 3]).live.link.nodeAt 1 = some (node .lost 3) ∧
    (onLink .probe (.query 0) [node .excluded 3]).live.link.nodeAt 1 = some (node .excluded 3) ∧
    replyEnding (.query 0) (replyOf 1 []) ≠ .failure ∧ replyEnding (.query 0) (replyOf 9 []) = .failure ∧
    run.live.link.state = .running ∧ run.live.link.onLink = none ∧ run.live.link.requests = [] := by
  decide +kernel

/-- The last probe of WAKING on the link, of a node in a state. -/
def lastProbe (state : NodeState) : State :=
  let s := onLink .probe (.query 0) [node state 0]
  { s with live := { s.live with
    part := { s.live.part with state := .waking }, link := { s.live.link with wake := .probing } } }

theorem witness_last_probe :
    (lastProbe .bound).held = false ∧ (lastProbe .bound).live.link.nodeAt 1 = some (node .bound 0) ∧
    (lastProbe .spare).live.link.nodeAt 1 = some (node .spare 0) ∧ (lastProbe .bound).live.part.state = .waking ∧
    (lastProbe .bound).live.link.wake = .probing ∧ (lastProbe .bound).live.link.requests = [] := by
  decide +kernel

/-- R156, R147: a failed probe of WAKING counts against its BOUND node, and the series starts. -/
theorem test_failed_probe_in_waking :
    let t := after (.probeReply (replyOf 9 [])) (lastProbe .bound)
    t.live.link.directory = [{ node .bound 1 with total := 8 }] ∧
      t.live.link.onLink.map (·.command) = some (.rollcall false) := by
  decide +kernel

theorem witness_window_requests :
    run.takes = true ∧ ([1, 2, 3] : List Byte).length = 3 ∧
    (withLink fun k => { k with directory := [node .bound 0] }).takes = true ∧
    (withLink fun k => { k with directory := [node .bound 0] }).live.link.nodeAt 1 = some (node .bound 0) ∧
    (node .bound 0).state ≠ .lost ∧ (withLink fun k => { k with state := .failed }).live.link.state = .failed := by
  decide +kernel

/-- A window access on the link. -/
def access (kind : Completion) (command : LinkCommand) : State :=
  let s := onLink .window command [node .bound 0]
  { s with live := { s.live with management := { s.live.management with inProgress := some kind } } }

theorem witness_window_replies :
    (access .nodeRead (.read false 0x10 4)).held = false ∧
    (access .nodeRead (.read false 0x10 4)).live.link.onLink.any isRead = true ∧
    (access .nodeRead (.read false 0x10 4)).live.management.inProgress = some .nodeRead ∧
    (access .nodeRead (.read false 0x10 4)).live.link.requests = [] ∧
    (access .nodeWrite (.write false 0x10 [1])).live.link.onLink.any isWrite = true ∧
    (access .nodeWrite (.write false 0x10 [1])).live.management.inProgress = some .nodeWrite := by
  decide +kernel

/-- R155: the data of a READ take the window's first bytes, and the others stand. -/
theorem test_window_read :
    ((after (.readReply (replyOf 0 [9, 8, 7, 6])) (access .nodeRead (.read false 0x10 4))).live.link.window.toList.take 5) =
      [9, 8, 7, 6, 0] := by
  decide +kernel

/-- The link in recovery. -/
def recovering (attempts : Nat) : State :=
  withLink fun k => { k with state := .recovering, attempts := attempts, attempting := true, directory := [node .bound 0] }

theorem witness_stuck :
    run.held = false ∧ run.live.link.state = .running ∧ run.live.part.state ≠ .watch ∧ run.live.link.onLink = none ∧
    (round []).live.link.onLink.any isRound = true ∧
    (onLink .probe (.query 0) []).live.link.onLink.any isRound = false ∧
    (recovering 0).live.link.state = .recovering ∧ (recovering 0).live.link.attempting = true ∧
    (recovering 0).live.link.attempts + 1 < 3 ∧ 3 ≤ (recovering 2).live.link.attempts + 1 ∧
    (withLink fun k => { k with state := .failed, attempting := true }).live.link.attempting = true ∧
    (withLink fun k => { k with delayTimer := some 100 }).live.link.delayTimer = some 100 ∧
    (withLink fun k => { k with retryTimer := some 5000 }).live.link.retryTimer = some 5000 := by
  decide +kernel

/-- R153: the third failed attempt makes the link FAILED and the BOUND entry LOST with its counts kept. -/
theorem test_link_fails :
    let t := after (.recoveryAttemptEnd false) (recovering 2)
    t.live.link.state = .failed ∧ t.live.link.directory = [{ node .lost 0 with total := 7 }] ∧
      t.live.events.latched.get 15 = some 1 := by
  decide +kernel

theorem witness_nodes :
    (withLink fun k => { k with directory := [node .bound 0] }).live.link.nodeAt 1 = some (node .bound 0) ∧
    run.live.link.nodeAt 1 = none ∧ (run.live.sequencer.actuators.get 0).state ≠ .faulted := by
  decide +kernel

/-- INTAKE bound to node 0x1234, FAULTED. -/
def faulted (state : NodeState) : State :=
  { withLive (fun l =>
      { l with
        link := { l.link with directory := [node state 0] }
        sequencer := { l.sequencer with
          actuators := l.sequencer.actuators.set 0 { Actuator.initial with state := .faulted } } }) with
    active := [(2048, 0x34), (2049, 0x12), (2054, 50)] }

theorem witness_faults :
    (faulted .bound).takes = true ∧ ((faulted .bound).live.sequencer.actuators.get 0).state = .faulted ∧
    nodeStateOf (faulted .bound).active (faulted .bound).live 0 = some .bound ∧
    nodeStateOf (faulted .lost).active (faulted .lost).live 0 = some .lost ∧
    nodeStateOf (faulted .spare).active (faulted .spare).live 0 = some .spare ∧
    nodeStateOf [] (faulted .bound).live 0 = none ∧ (faulted .spare).live.link.state ≠ .failed := by
  decide +kernel

/-- R133: the node of a FAULTED role has an entry that is none of BOUND, LOST and EXCLUDED, so the role becomes ABSENT. -/
theorem test_clear_fault_absent :
    ((after (.clearFault 0) (faulted .spare)).live.sequencer.actuators.get 0).state = .absent := by
  decide +kernel

/-- R131: the role of a lost node becomes OFFLINE, and R132: UNCERTAIN once its node is bound again. -/
theorem test_node_gone_and_back :
    let img := (faulted .bound).active
    let l := { (faulted .bound).live with sequencer := run.live.sequencer }
    let idle := setActuatorState 0 .idle l
    let gone := nodeGone img 0x1234 idle
    (gone.sequencer.actuators.get 0).state = .offline ∧
      ((nodeBound img 0x1234 gone).sequencer.actuators.get 0).state = .uncertain ∧ ([0] : List Role).Nodup := by
  decide +kernel

/-! ### Table images and the store -/

/-- The load pointer at page 3, offset 124. -/
def pointed : State := withManagement fun m => { m with pointer := some (3, 124) }

theorem witness_loads :
    pointed.takes = true ∧ pointed.live.management.pointer = some (3, 124) ∧ run.live.management.pointer = none ∧
    bankWf pointed.loading = true ∧
    (withManagement fun m => { m with protectSet := 1 }).live.management.protectSet.getLsbD 0 = true := by
  decide +kernel

/-- The worked example of chapter 9: six bytes from offset 124 end at offset 2 of the same page. -/
theorem test_load_wraps :
    let t := after (.loadData 6 [1, 2, 3, 4, 5, 6]) pointed
    t.live.management.pointer = some (3, 2) ∧ readByte t.loading (128 * 3 + 127) = 4 ∧ readByte t.loading (128 * 3) = 5 := by
  decide +kernel

/-- PARK_BRAKE and PUMP_ENGAGED as the service interlock asks. -/
def parked : State := withLive fun l => { l with slots := (l.slots.set 15 (fresh 1)).set 14 (fresh 0) }

/-- R164: the default image has no failing record; rule 2 enabled with an EXTENDED identifier bit in a BASE rule fails in
record 2 of page 0, and slot 31 with an age of 0 in record 7 of page 15. -/
theorem test_first_invalid :
    firstInvalid [] = none ∧ firstInvalid [(32, 1), (37, 8)] = some (0, 2) ∧ firstInvalid [(2033, 0)] = some (15, 7) ∧
    firstInvalid [(32, 1), (37, 7), (33, 8), (34, 64)] = none := by
  decide +kernel

/-- R164: with the interlock and the check right the default image is activated, DONE. -/
theorem test_activate :
    let t := after (.activate (bankCheck [])) parked
    t.live.port.places.get 0 = .ready
      { ident := 0x5DF, data := [0x25, 0] ++ bytes16 (bankCheck []) ++ [0, 0, 0, 0] } ∧
    t.live.events.latched.get 18 = some (bankCheck []) := by
  decide +kernel

theorem test_activate_refused :
    (after (.activate 0) run).live.port.places.get 0 =
      .ready { ident := 0x5DF, data := [0x25, 6, 0, 0, 0, 0, 0, 0] } := by
  decide +kernel

theorem witness_rule_range :
    run.live.management.ruleRange = .idle ∧
    (withManagement fun m => { m with ruleRange := .first 2 }).live.management.ruleRange = .first 2 ∧
    (withManagement fun m => { m with ruleRange := .range 2 9 [3] }).live.management.ruleRange = .range 2 9 [3] ∧
    run.live.management.protectSet.getLsbD 0 = false ∧ bankWf run.loading = true ∧ (9 : Nat) ≤ 95 ∧
    8 ≤ ([2, 3, 4, 5, 6, 7, 8, 9] : List Nat).length := by
  decide +kernel

/-- R166: rule 3 is kept, rule 2 is disabled and counted. -/
theorem test_clear_marked :
    let s := { withManagement (fun m => { m with ruleRange := .range 2 3 [3] }) with loading := [(32, 0x81), (48, 0x81)] }
    (after .clearMarked s).loading = [(32, 0x80), (48, 0x81)] := by
  decide +kernel

theorem witness_store :
    (withManagement fun m => { m with inProgress := some (.protect 3) }).live.management.inProgress = some (.protect 3) ∧
    (withManagement fun m => { m with inProgress := some (.unprotect 1) }).live.management.inProgress =
      some (.unprotect 1) ∧
    (withManagement fun m => { m with saving := some 4 }).live.management.saving = some 4 ∧
    bankWf run.store.image = true ∧ ([(512, 0)].map (·.1) : List Nat).Nodup ∧
    (∀ p, p < 20 → ∀ k, k < 128 → readByte run.store.image (128 * p + k) = readByte run.active (128 * p + k)) ∧
    run.store.check ≠ some (bankCheck run.active) ∧
    ¬(∀ k, k < 128 → readByte ([(0, 1)] : Bank) (128 * 0 + k) = readByte run.active (128 * 0 + k)) := by
  decide +kernel

/-- R168: a flaw in the high byte of the check. -/
theorem test_check_flaw :
    let s := withManagement fun m => { m with saving := some 20 }
    let t := after (.savePageProgrammed [(1, 0xEE)]) s
    t.store.check = some (bankCheck [] % 256 + 256 * 0xEE) ∧ t.live.management.saving = some 21 := by
  decide +kernel

theorem witness_save_end :
    let s := withManagement fun m => { m with saving := some 21 }
    s.held = false ∧ s.live.management.saving = some 21 ∧
    { s.store with check := some (bankCheck s.active) }.check = some (bankCheck s.active) := by
  decide +kernel

/-- R168: a read-back that agrees latches SAVE_DONE with the ACTIVE check and clears STORE_INVALID. -/
theorem test_save_done :
    let s := withManagement fun m => { m with saving := some 21 }
    let t := after .saveComplete { s with store := { s.store with check := some (bankCheck []) } }
    t.live.events.latched.get 19 = some (bankCheck []) ∧ t.live.management.storeInvalid = false := by
  decide +kernel

/-! ### Events, timers and the part state -/

theorem witness_events :
    run.live.events.latched.get 21 ≠ none ∧ run.live.events.mask.getLsbD 3 = false ∧ run.live.events.spacingHold ≠ none ∧
    (5 : BitVec 32).toNat < 2 ^ 22 ∧ 2 ^ 22 ≤ (0x400000 : BitVec 32).toNat ∧ (run.live.events.latched.get 3).getD 0 < 65536 := by
  decide +kernel

/-- R174, R175: a forced kind is latched with 0; within the spacing hold its STATUS_E is owed. -/
theorem test_force_event :
    let t := after (.forceEvent 7) run
    t.live.events.latched.get 7 = some 0 ∧ t.live.events.owed = true := by
  decide +kernel

theorem witness_status_timers :
    run.live.events.statusTimer = some 1000 ∧ run.live.events.spacingHold = some 100 ∧ run.held = false := by
  decide +kernel

theorem witness_part_states :
    (withPart fun p => { p with ignitionTimer := some 60000 }).live.part.ignitionTimer = some 60000 ∧
    run.takes = true ∧ run.live.part.state = .run ∧
    (withPart fun p => { p with state := .settling }).takes = true ∧
    (withPart fun p => { p with state := .waking }).takes = true ∧
    (withPart fun p => { p with state := .starting }).takes = true ∧ run.live.sequencer.queue = [] ∧
    run.live.sequencer.inFlight = [] ∧ run.live.management.saving = none := by
  decide +kernel

/-- The part in SETTLING or WATCH with work, a suspended move, and the link as it may stand at an entry. -/
theorem witness_entries :
    let e : QueueEntry := { role := 12, kind := .set, level := 500, urgent := true, holdOff := none, shed := true }
    let q := { run.live.sequencer with queue := [e, waiting], suspended := some { role := 9, level := 1, position := 2 } }
    let probe : LinkRequest := { owner := .probe, address := 1, command := .query 0, cls := .probe, joined := 0 }
    (presented [] (withSlot ignitionSlot (fresh 1)).live.slots ignitionSlot).isTrue = true ∧
    (presented [] run.live.slots ignitionSlot).isTrue = false ∧ q.suspended ≠ none ∧ q.queue.any (fun x => x.shed) = true ∧
    q.queue.any (fun x => x.kind != .set) = true ∧ (recovering 0).live.link.state = .recovering ∧
    (withLink fun k => { k with state := .failed }).live.link.state = .failed ∧
    (withLink fun k => { k with requests := [probe], wake := .probing }).live.link.requests.any (·.owner == .probe) = true ∧
    (withPart fun p => { p with state := .waking }).live.part.state = .waking := by
  decide +kernel

/-- R181: IGNITION off in RUN starts the ignition timer with watch_delay. -/
theorem test_ignition_off :
    (notify [] ignitionSlot (withSlot ignitionSlot (fresh 0)).live).part.ignitionTimer = some 60000 := by
  decide +kernel

/-- R134: at the entry to SETTLING an IDLE blower is ordered off and a queued move leaves the queue. -/
theorem test_settles :
    let s := withSequencer fun q => { q with
      actuators := (q.actuators.set 12 { Actuator.initial with state := .idle }).set 4
        { Actuator.initial with state := .queued }
      queue := [waiting] }
    let t := enterSettling [] s.live
    t.sequencer.queue = [{ role := 12, kind := .set, level := 0, urgent := true, holdOff := none, shed := false }] ∧
    (t.sequencer.actuators.get 4).state = .idle := by
  decide +kernel

/-- R181, R182, R134: SLEEP in RUN with nothing to switch off leads through SETTLING to WATCH. -/
theorem test_sleep : (after .sleep run).live.part.state = .watch := by decide +kernel

/-! ### Status frames -/

/-- R186: STATUS_A of the state after reset, packed by hand: SHIELD for START, X UNKNOWN, fraction 400, avail 150. -/
theorem test_status_a :
    State.reset.live.budget.committed < 2048 ∧
    (statusA State.reset.live).data = [0x20, 0xFE, 0x0F, 0x99, 0x25, 0, 0, 0] := by
  decide +kernel

/-! ### Invariants -/

theorem witness_invariants :
    State.reset.imagesWf = true ∧ State.reset.countersWf = true ∧ State.reset.airWf = true ∧
    State.reset.queueWf = true ∧ State.reset.directoryWf = true ∧ ∃ t, step State.reset = .next t :=
  ⟨by decide +kernel, by decide +kernel, by decide +kernel, by decide +kernel, by decide +kernel, _, rfl⟩

/-- Forms that are not the empty ones: a queue with both classes beside an item, and a directory at both ends. -/
theorem witness_forms :
    let e : QueueEntry := { waiting with role := 7, urgent := true }
    let s := inFlight (item 5 .move .running) (.move 0 600)
    let q := { s.live.sequencer with queue := [e, waiting], suspended := some { role := 9, level := 1, position := 2 } }
    let nodes := [{ node .lost 3 with address := 16 }, { node .bound 0 with serial := 0xFFFFFFFE }]
    let t : State := { s with live := { s.live with sequencer := q, link := { s.live.link with directory := nodes } } }
    t.queueWf = true ∧ t.directoryWf = true ∧
    { t with live := { t.live with sequencer := { q with queue := [waiting, e] } } }.queueWf = false ∧
    { t with live := { t.live with sequencer := { q with inFlight := [item 4 .move .running] } } }.queueWf = false := by
  decide +kernel

theorem witness_bank_changes :
    (after .powerOn oneRuleActive).active ≠ oneRuleActive.active ∧ (after .copyActive oneRuleActive).loading ≠ [] ∧
    (after (.savePageProgrammed []) { oneRuleActive with live :=
      { oneRuleActive.live with management := { oneRuleActive.live.management with saving := some 0 } } }).store.image ≠
      [] := by
  decide +kernel

end Sys2Proof.Tests
end

