-- ==== Sys2Proof/Proofs/Transmission.lean ====
section
/-! The transmit places (R7): what placing a frame and the end of a transmission do to a place and to the port, and the
statement about both tables. -/

namespace Sys2Proof.Machine

/-! ### A place -/

@[simp] theorem Place.put_empty (f : TxFrame) : Place.put f .empty = .ready f := rfl
@[simp] theorem Place.put_ready (f old : TxFrame) : Place.put f (.ready old) = .ready f := rfl
@[simp] theorem Place.put_sending (f g : TxFrame) (next : Option TxFrame) :
    Place.put f (.sending g next) = .sending g (some f) := rfl

@[simp] theorem Place.sent_with_successor (f h : TxFrame) : (Place.sending f (some h)).sent = .ready h := rfl
@[simp] theorem Place.sent_alone (f : TxFrame) : (Place.sending f none).sent = .empty := rfl

/-- After a transmission that failed the place is READY with the successor, or without one with the same frame (R7). -/
@[simp] theorem Place.unsent_sending (f : TxFrame) (g : Option TxFrame) :
    (Place.sending f g).unsent = .ready (g.getD f) := by
  cases g with
  | none => rfl
  | some h => rfl

/-! ### The port with a frame on the bus -/

theorem Port.onPlace_of_get {p : Port} {i : Fin 7} {x : Place} (h : p.places.get i = x) (f : Place → Place) :
    p.onPlace i f = { p with places := p.places.set i (f x) } := by
  simp only [Port.onPlace, updateAt, h]

theorem transmissionDone_of_sending {s : State} {i : Fin 7} (hi : s.live.port.sendingPlace = some i)
    (hr : restartSent s.live i = false) :
    transmissionDone s = s.onLive fun l =>
      { l with port := { l.port.onPlace i Place.sent with txErrors := l.port.txErrors - 1 } } := by
  simp [transmissionDone, hi, hr]

theorem arbitrationFails_of_sending {p : Port} {i : Fin 7} (hi : p.sendingPlace = some i) :
    arbitrationFails p = p.onPlace i Place.unsent := by
  simp only [arbitrationFails, hi]

theorem transmissionFails_of_sending {l : Live} {i : Fin 7} (hi : l.port.sendingPlace = some i) (noAck : Bool) :
    transmissionFails noAck l =
      let n := errorsAfter l.port noAck
      let failed : Live := { l with port := { l.port.onPlace i Place.unsent with txErrors := n } }
      if n = 256 then latch kPortOffline 256 failed else failed := by
  simp only [transmissionFails, hi]

/-! ### The commands that end a transmission -/

theorem exec_transmitSuccess {s : State} (hs : s.held = false) :
    exec .transmitSuccess s = .next (transmissionDone s) := by
  change execTransmitSuccess s = _
  simp [execTransmitSuccess, hs]

theorem exec_arbitrationLost {s : State} (hs : s.held = false) :
    exec .arbitrationLost s = .next { s with live := { s.live with port := arbitrationFails s.live.port } } :=
  congrArg Host.Outcome.next (s.running_free _ hs)

theorem exec_transmitError {s : State} (hs : s.held = false) (noAck : Bool) :
    exec (.transmitError noAck) s = .next { s with live := transmissionFails noAck s.live } :=
  congrArg Host.Outcome.next (s.running_free _ hs)

/-! ### The tables of R7 -/

/-- Settles O6: each table of R7 is a case split over the place that the event finds, placing over its three states and
the end of a transmission over its successor. -/
theorem transmitPlacesFollowTheTables : Obligations.TransmitPlacesFollowTheTables := by
  refine ⟨fun i f l => ?placing, fun s i f g hs hi hp => ⟨fun hr => ?success, ?lost, fun noAck => ?error⟩⟩
  case placing =>
    cases hp : l.port.places.get i with
    | empty => simp only [placeFrame, Port.onPlace_of_get hp, Place.put_empty]
    | ready old => simp only [placeFrame, Port.onPlace_of_get hp, Place.put_ready]
    | sending g next => simp only [placeFrame, Port.onPlace_of_get hp, Place.put_sending]
  case success =>
    simp only [exec_transmitSuccess hs, transmissionDone_of_sending hi hr, State.onLive, Port.onPlace_of_get hp]
    cases g with
    | none => simp only [Place.sent_alone]
    | some h => simp only [Place.sent_with_successor]
  case lost =>
    simp only [exec_arbitrationLost hs, arbitrationFails_of_sending hi, Port.onPlace_of_get hp, Place.unsent_sending]
  case error =>
    simp only [exec_transmitError hs, transmissionFails_of_sending hi, Port.onPlace_of_get hp, Place.unsent_sending,
      errorsAfter, raisedTxErrors]

end Sys2Proof.Machine
end

