-- ==== Sys2Proof/Proofs/Classification.lean ====
section
/-! The frame classifier (chapter 2): how a rule matches and reads its field, how the value is scaled, and what a LATCH rule
does with it. -/

namespace Sys2Proof.Machine

/-! ### Matching (R17) -/

/-- Two numbers agree under a mask exactly when they agree in every bit that the mask sets. -/
theorem and_mask_eq_iff (a b m : Nat) :
    a &&& m = b &&& m ↔ ∀ k, m.testBit k = true → a.testBit k = b.testBit k := by
  constructor
  · intro h k hk
    have hbit := congrArg (Nat.testBit · k) h
    simpa only [Nat.testBit_and, hk, Bool.and_true] using hbit
  · intro h
    refine Nat.eq_of_testBit_eq fun k => ?_
    cases hk : m.testBit k with
    | false => simp only [Nat.testBit_and, hk, Bool.and_false]
    | true => simp only [Nat.testBit_and, hk, Bool.and_true, h k hk]

theorem Rule.matches_iff (r : Rule) (f : RxFrame) : r.matches f = true ↔
    r.enabled = true ∧ r.format = f.format ∧ ∀ k, r.mask.testBit k = true → f.ident.testBit k = r.ident.testBit k := by
  simp only [Rule.matches, Bool.and_eq_true, decide_eq_true_eq, beq_iff_eq, and_mask_eq_iff, and_assoc]

/-! ### The data bits of a frame as one number (R22) -/

/-- The data bytes as a number, byte 0 the least significant. -/
def dataNumber (data : List Byte) : Nat := data.foldr (fun v acc => v.toNat + 256 * acc) 0

@[simp] theorem dataNumber_nil : dataNumber [] = 0 := rfl
@[simp] theorem dataNumber_cons (v : Byte) (rest : List Byte) :
    dataNumber (v :: rest) = v.toNat + 256 * dataNumber rest := rfl

@[simp] theorem byteAt_nil (k : Nat) : byteAt [] k = 0 := rfl
@[simp] theorem byteAt_cons_zero (v : Byte) (rest : List Byte) : byteAt (v :: rest) 0 = v := rfl
@[simp] theorem byteAt_cons_succ (v : Byte) (rest : List Byte) (k : Nat) :
    byteAt (v :: rest) (k + 1) = byteAt rest k := rfl

theorem bits_lt (n lo width : Nat) : bits n lo width < 2 ^ width := Nat.mod_lt _ (Nat.two_pow_pos width)

/-- The eight bits from bit `8 k` of the data are its byte `k`. -/
theorem bits_dataNumber_byte (data : List Byte) (k : Nat) : bits (dataNumber data) (8 * k) 8 = (byteAt data k).toNat := by
  induction data generalizing k with
  | nil => simp [bits]
  | cons v rest ih =>
    have hv : v.toNat < 256 := v.isLt
    cases k with
    | zero => simp only [bits, dataNumber_cons, byteAt_cons_zero]; omega
    | succ k =>
      have tail : (v.toNat + 256 * dataNumber rest) / 2 ^ 8 = dataNumber rest := by omega
      simpa only [bits, dataNumber_cons, byteAt_cons_succ, Nat.mul_succ, Nat.add_comm _ 8, Nat.pow_add,
        ← Nat.div_div_eq_div_mul, tail] using ih k

/-- Bit `k` of the data is bit `k mod 8` of byte `k / 8`. -/
theorem testBit_dataNumber (data : List Byte) (k : Nat) :
    (dataNumber data).testBit k = (byteAt data (k / 8)).getLsbD (k % 8) := by
  have hk : k % 8 < 8 := Nat.mod_lt k (by decide)
  calc (dataNumber data).testBit k
      = (bits (dataNumber data) (8 * (k / 8)) 8).testBit (k % 8) := by
        simp only [bits, Nat.testBit_mod_two_pow, Nat.testBit_div_two_pow, hk, decide_true, Bool.true_and, Nat.mod_add_div]
    _ = (byteAt data (k / 8)).getLsbD (k % 8) := by rw [bits_dataNumber_byte]; rfl

/-- A field of a number is the sum of the weights of its set bits. -/
theorem bits_eq_sum (n lo width : Nat) :
    bits n lo width = ((List.range width).map fun i => if n.testBit (lo + i) then 2 ^ i else 0).sum := by
  induction width with
  | zero => simp [bits, Nat.mod_one]
  | succ w ih =>
    have top : bits n lo (w + 1) = bits n lo w + 2 ^ w * (n.testBit (lo + w)).toNat := by
      rw [Nat.toNat_testBit, Nat.pow_add, ← Nat.div_div_eq_div_mul]
      exact Nat.mod_pow_succ
    rw [top, ih, List.range_succ, List.map_append, List.sum_append]
    cases hbit : n.testBit (lo + w) <;> simp [hbit]

/-! ### Reading a field (R22 to R24) -/

theorem rawBits_little {r : Rule} (h : r.big = false) (data : List Byte) :
    rawBits r data = bits (dataNumber data) r.start r.width := by
  simp only [rawBits, h, dataNumber, Bool.false_eq_true, if_false]

theorem rawBits_little_sum {r : Rule} (h : r.big = false) (data : List Byte) :
    rawBits r data = ((List.range r.width).map fun i =>
      if (byteAt data ((r.start + i) / 8)).getLsbD ((r.start + i) % 8) then 2 ^ i else 0).sum := by
  simp only [rawBits_little h, bits_eq_sum, testBit_dataNumber]

theorem rawBits_big_byte {r : Rule} (h : r.big = true) (hw : r.width = 8) (data : List Byte) :
    rawBits r data = (byteAt data (r.start / 8)).toNat := by
  simp [rawBits, h, hw]

theorem rawBits_big_word {r : Rule} (h : r.big = true) (hw : r.width = 16) (data : List Byte) :
    rawBits r data = 256 * (byteAt data (r.start / 8)).toNat + (byteAt data (r.start / 8 + 1)).toNat := by
  simp only [rawBits, h, hw, if_true]

/-- One aligned byte reads the same in LITTLE order. -/
theorem rawBits_little_byte {r : Rule} (hs : r.start % 8 = 0) (hw : r.width = 8) (data : List Byte) :
    rawBits { r with big := false } data = (byteAt data (r.start / 8)).toNat := by
  have aligned : r.start = 8 * (r.start / 8) := by omega
  rw [rawBits_little rfl, hw, aligned, bits_dataNumber_byte, ← aligned]

/-- The sign bit of a value of `k + 1` bits is set exactly from the middle of its range on. -/
theorem testBit_top_iff {k raw : Nat} (h : raw < 2 ^ (k + 1)) : raw.testBit k = true ↔ 2 ^ k ≤ raw := by
  constructor
  · exact Nat.ge_two_pow_of_testBit
  · exact fun hle => Nat.testBit_of_two_pow_le_and_two_pow_add_one_gt hle h

theorem signRead_unsigned {r : Rule} (h : r.signed = false) (raw : Nat) : signRead r raw = raw := by
  simp [signRead, h]

theorem signRead_eq {r : Rule} {raw : Nat} (hw : 1 ≤ r.width) (h : raw < 2 ^ r.width) :
    signRead r raw = if r.signed ∧ raw.testBit (r.width - 1) then (raw : Int) - 2 ^ r.width else (raw : Int) := by
  have hw' : r.width - 1 + 1 = r.width := Nat.sub_add_cancel hw
  simp only [signRead, testBit_top_iff (hw'.symm ▸ h)]

/-- Two's complement of the field's width stays within that width's signed range. -/
theorem signRead_range {r : Rule} {raw : Nat} (hs : r.signed = true) (hw : 1 ≤ r.width) (h : raw < 2 ^ r.width) :
    -(2 : Int) ^ (r.width - 1) ≤ signRead r raw ∧ signRead r raw < (2 : Int) ^ (r.width - 1) := by
  obtain ⟨k, hk⟩ : ∃ k, r.width = k + 1 := ⟨r.width - 1, by omega⟩
  have half : (2 : Int) ^ k = ((2 ^ k : Nat) : Int) := (Int.natCast_pow 2 k).symm
  have whole : (2 : Int) ^ (k + 1) = ((2 ^ (k + 1) : Nat) : Int) := (Int.natCast_pow 2 (k + 1)).symm
  have double : 2 ^ (k + 1) = 2 * 2 ^ k := Nat.pow_succ'
  rw [hk, double] at h
  simp only [signRead, hs, true_and, hk, Nat.add_sub_cancel, whole, half, double]
  split <;> omega

/-- Settles O14: the bitwise reading of the masked comparison, the data as one number for both byte orders, and the sign
bit as the middle of the field's range. -/
theorem rulesMatchAndReadTheirFields : Obligations.RulesMatchAndReadTheirFields := by
  refine ⟨Rule.matches_iff, fun r data => ⟨fun little => ?_, fun big aligned => ⟨fun hw => ?_, fun hw => ?_⟩⟩,
    fun r raw hw h => ⟨signRead_eq hw h, fun hs => signRead_range hs hw h, fun hs => signRead_unsigned hs raw⟩⟩
  · exact ⟨rawBits_little_sum little data, rawBits_little little data ▸ bits_lt _ _ _⟩
  · have one := rawBits_big_byte big hw data
    exact ⟨one, one.trans (rawBits_little_byte aligned hw data).symm⟩
  · exact rawBits_big_word big hw data

/-! ### Scaling (R27) -/

/-- The error of a division by 1024 rounded to the nearest is at most a half, and a half goes away from zero. -/
theorem divAway_1024_nearest (p : Int) :
    2 * (1024 * divAway p 1024 - p) ≤ 1024 ∧ -1024 ≤ 2 * (1024 * divAway p 1024 - p) ∧
    (2 * (1024 * divAway p 1024 - p) = 1024 → 0 < p) ∧ (2 * (1024 * divAway p 1024 - p) = -1024 → p < 0) := by
  unfold divAway
  split <;> omega

theorem scaled_sub_offset (r : Rule) (raw : Int) : scaled r raw - r.offset = divAway (raw * r.gain) 1024 := by
  unfold scaled; omega

theorem scaled_of_gain_zero {r : Rule} (h : r.gain = 0) (raw : Int) : scaled r raw = r.offset := by
  simp [scaled, h, divAway]

/-- The product of a raw value of up to 16 bits and a gain. -/
theorem product_range {raw gain : Int} (hr : -65535 ≤ raw ∧ raw ≤ 65535) (hg : -32768 ≤ gain ∧ gain ≤ 32767) :
    -2147450880 ≤ raw * gain ∧ raw * gain ≤ 2147450880 := by
  have magnitude : (raw * gain).natAbs ≤ 65535 * 32768 :=
    Int.natAbs_mul raw gain ▸ Nat.mul_le_mul (by omega : raw.natAbs ≤ 65535) (by omega : gain.natAbs ≤ 32768)
  omega

theorem scaled_range {r : Rule} {raw : Int} (hr : -65535 ≤ raw ∧ raw ≤ 65535) (hg : -32768 ≤ r.gain ∧ r.gain ≤ 32767)
    (ho : -32768 ≤ r.offset ∧ r.offset ≤ 32767) : -2129888 ≤ scaled r raw ∧ scaled r raw ≤ 2129888 := by
  have product := product_range hr hg
  obtain ⟨high, low, -, -⟩ := divAway_1024_nearest (raw * r.gain)
  have quotient := scaled_sub_offset r raw
  omega

/-- Settles O16: rounding by 1024 errs by at most a half, and the product of the extreme raw value and gain bounds the
quotient. -/
theorem scalingRoundsHalvesAwayFromZero : Obligations.ScalingRoundsHalvesAwayFromZero := by
  intro r raw
  simp only [scaled_sub_offset]
  obtain ⟨high, low, up, down⟩ := divAway_1024_nearest (raw * r.gain)
  exact ⟨high, low, up, down, fun h => scaled_of_gain_zero h raw,
    fun r₁ r₂ g₁ g₂ o₁ o₂ => scaled_range ⟨r₁, r₂⟩ ⟨g₁, g₂⟩ ⟨o₁, o₂⟩⟩

/-! ### What an offer leaves of the classifier

`core` erases the classifier's state; no notice changes that either. -/

@[simp] theorem latch_classifier (k : Kind) (n : Nat) (l : Live) : (latch k n l).classifier = l.classifier :=
  outer_classifier (outer_latch k n l)

@[simp] theorem issueTargets_classifier (img : Bank) (l : Live) : (issueTargets img l).classifier = l.classifier :=
  outer_classifier (outer_issueTargets img l)

@[simp] theorem formIndex_classifier (img : Bank) (l : Live) : (formIndex img l).classifier = l.classifier := by
  unfold formIndex; dsimp only; split <;> simp

@[simp] theorem reworkFraction_classifier (img : Bank) (l : Live) : (reworkFraction img l).classifier = l.classifier := by
  unfold reworkFraction; dsimp only; repeat' split
  all_goals simp

@[simp] theorem latchRisen_classifier (a : Air) (h : Presented) (l : Live) :
    (latchRisen a h l).classifier = l.classifier := by
  unfold latchRisen; dsimp only; split <;> split <;> simp

@[simp] theorem testIngress_classifier (img : Bank) (l : Live) : (testIngress img l).classifier = l.classifier := by
  simp [testIngress]

@[simp] theorem enterMode_classifier (img : Bank) (m : Mode) (r : Option Reason) (l : Live) :
    (enterMode img m r l).classifier = l.classifier := by
  simp [enterMode]

@[simp] theorem changeReason_classifier (r : Reason) (l : Live) : (changeReason r l).classifier = l.classifier := by
  simp [changeReason]

@[simp] theorem testsClosedHaze_classifier (img : Bank) (t : Trigger) (l : Live) :
    (testsClosedHaze img t l).classifier = l.classifier := by
  unfold testsClosedHaze; repeat' split
  all_goals simp

@[simp] theorem applyTests_classifier (img : Bank) (t : Trigger) (l : Live) :
    (applyTests img t l).classifier = l.classifier := by
  unfold applyTests testsFresh testsShield testsClosedManual testsPurge
  dsimp only
  repeat' split
  all_goals simp

@[simp] theorem takeTransition_classifier (img : Bank) (t : Trigger) (l : Live) :
    (takeTransition img t l).classifier = l.classifier := by
  unfold takeTransition; repeat' split
  all_goals simp

@[simp] theorem settleTimers_classifier (img : Bank) (n : Nat) (l : Live) :
    (settleTimers img n l).classifier = l.classifier := by
  induction n generalizing l with
  | zero => rfl
  | succ n ih =>
    unfold settleTimers
    split
    · rw [ih, takeTransition_classifier]
    · rfl

@[simp] theorem evaluate_classifier (img : Bank) (t : Trigger) (l : Live) :
    (evaluate img t l).classifier = l.classifier := by
  simp [evaluate]

@[simp] theorem batteryNotice_classifier (img : Bank) (l : Live) : (batteryNotice img l).classifier = l.classifier := by
  have shed (m : Live) : (testShed img m).classifier = m.classifier := outer_classifier (outer_testShed img m)
  have room (m : Live) : (roomNotice img m).classifier = m.classifier := outer_classifier (outer_roomNotice img m)
  unfold batteryNotice workOutAvail
  dsimp only
  repeat' split
  all_goals simp only [shed, room]

@[simp] theorem ignitionNotice_classifier (img : Bank) (l : Live) : (ignitionNotice img l).classifier = l.classifier := by
  unfold ignitionNotice ignitionInRun enterRun startRun testIgnition startIgnitionTimer
  dsimp only
  repeat' split
  all_goals simp

/-- A slot notice does not reach the classifier (R37). -/
@[simp] theorem notify_classifier (img : Bank) (n : Fin 32) (l : Live) : (notify img n l).classifier = l.classifier := by
  unfold notify hazeNotice entryNotice recircNotice pressureNotice cabHazeNotice
  dsimp only
  repeat' split
  all_goals simp

@[simp] theorem notifyUnlessForced_classifier (img : Bank) (n : Fin 32) (l : Live) :
    (notifyUnlessForced img n l).classifier = l.classifier := by
  unfold notifyUnlessForced; split <;> simp

@[simp] theorem offerSlot_classifier (img : Bank) (n : Fin 32) (value : Int) (rank : Nat) (l : Live) :
    (offerSlot img n value rank l).classifier = l.classifier := by
  unfold offerSlot; dsimp only; repeat' split
  all_goals simp

/-! ### A LATCH rule (R20, R26, R28, R29) -/

theorem onCounts_of_fin (n : Fin 96) (f : RuleCounts → RuleCounts) (l : Live) :
    onCounts n.val f l =
      { l with classifier :=
        { l.classifier with counts := l.classifier.counts.set n (f (l.classifier.counts.get n)) } } := by
  simp only [onCounts, n.isLt, dif_pos, updateAt]

theorem notAvailable_iff (r : Rule) (raw : Nat) :
    notAvailable r raw = true ↔ r.allOnes = true ∧ raw = 2 ^ r.width - 1 := by
  simp [notAvailable]

theorem latchRule_of_notAvailable {r : Rule} {f : RxFrame} (h : notAvailable r (rawBits r f.data) = true)
    (img : Bank) (n : Nat) (l : Live) : latchRule img n r f l = countNa n l := by
  simp only [latchRule, if_pos h]

theorem latchRule_of_available {r : Rule} {f : RxFrame} (h : ¬notAvailable r (rawBits r f.data) = true)
    (img : Bank) (n : Nat) (l : Live) : latchRule img n r f l =
      countHit n (offerSlot img r.slot (scaled r (signRead r (rawBits r f.data))) r.rank l) := by
  simp only [latchRule, if_neg h]

/-- Settles O15: the not-available test decides between the two counts, and an offer leaves the classifier alone. -/
theorem latchRulesTestOfferAndCount : Obligations.LatchRulesTestOfferAndCount := by
  intro img n r f l
  simp only [← notAvailable_iff]
  constructor
  · intro absent
    rw [latchRule_of_notAvailable absent, countNa, onCounts_of_fin]
    rfl
  · intro present
    rw [latchRule_of_available present, countHit, onCounts_of_fin, offerSlot_classifier]
    rfl

end Sys2Proof.Machine
end

/-! The signal slots (chapter 3): what readers see of a slot. -/

namespace Sys2Proof.Machine

/-! ### The presented pair (R36) -/

section Presented

variable {img : Bank} {slots : Vector Slot 32} {n : Fin 32}

theorem presented_of_forced {v : Int} (forced : (slots.get n).forced = some v) :
    presented img slots n = { value := v, valid := true } := by
  simp only [presented, forced]

/-- A reader cannot tell a STALE slot from a FRESH one. -/
theorem presented_of_fresh_or_stale (free : (slots.get n).forced = none)
    (current : (slots.get n).belief = .fresh ∨ (slots.get n).belief = .stale) :
    presented img slots n = { value := (slots.get n).value, valid := true } := by
  obtain fresh | stale := current
  · simp only [presented, free, fresh]
  · simp only [presented, free, stale]

theorem presented_of_never_or_lapsed (free : (slots.get n).forced = none)
    (absent : (slots.get n).belief = .never ∨ (slots.get n).belief = .lapsed) :
    presented img slots n = { value := (slotDef img n).default, valid := false } := by
  obtain never | lapsed := absent
  · simp only [presented, free, never]
  · simp only [presented, free, lapsed]

end Presented

/-! ### A reader's question (R36) -/

theorem Presented.isTrue_iff (p : Presented) : p.isTrue = true ↔ p.valid = true ∧ p.value ≠ 0 := by
  simp [Presented.isTrue]

theorem Presented.isFalse_iff (p : Presented) : p.isFalse = true ↔ p.valid = true ∧ p.value = 0 := by
  simp [Presented.isFalse]

/-- Settles O19: the presented pair by the three kinds of state that R36 tells apart, and the reader's two questions, which
look at the pair alone. -/
theorem presentedPairFollowsTheState : Obligations.PresentedPairFollowsTheState := by
  intro img slots n s p
  exact ⟨fun _ => presented_of_forced, presented_of_fresh_or_stale, presented_of_never_or_lapsed,
    p.isTrue_iff, p.isFalse_iff⟩

end Sys2Proof.Machine

/-! The air source controller (chapter 4): the contamination index. -/

namespace Sys2Proof.Machine

/-! ### The greatest of the contributions there are (R52) -/

theorem worst_eq_none_iff (cs : List (Option Nat)) : worst cs = none ↔ ∀ c, some c ∉ cs := by
  induction cs with
  | nil => simp [worst]
  | cons head rest ih =>
    cases head with
    | none => simpa [worst] using ih
    | some c => exact iff_of_false (by simp [worst]) fun absent => absent c List.mem_cons_self

theorem le_worst_of_mem {c : Nat} {cs : List (Option Nat)} (mem : some c ∈ cs) : c ≤ (worst cs).getD 0 := by
  induction cs with
  | nil => cases mem
  | cons head rest ih =>
    cases head with
    | none => exact ih (by simpa using mem)
    | some d =>
      obtain same | inRest : c = d ∨ some c ∈ rest := by simpa using mem
      · exact same ▸ Nat.le_max_left c _
      · exact Nat.le_trans (ih inRest) (Nat.le_max_right d _)

theorem some_mem_of_worst_eq {x : Nat} {cs : List (Option Nat)} (greatest : worst cs = some x) : some x ∈ cs := by
  induction cs generalizing x with
  | nil => cases greatest
  | cons head rest ih =>
    cases head with
    | none => exact List.mem_cons_of_mem _ (ih greatest)
    | some d =>
      cases greatest
      cases tail : worst rest with
      | none => simp
      | some y =>
        have y_mem := ih tail
        obtain first | later := Nat.le_total y d
        · simp [Nat.max_eq_left first]
        · simp [Nat.max_eq_right later, y_mem]

theorem le_of_worst_eq {x c : Nat} {cs : List (Option Nat)} (greatest : worst cs = some x) (mem : some c ∈ cs) :
    c ≤ x := by
  simpa only [greatest, Option.getD_some] using le_worst_of_mem mem

/-! ### The contributions of the heads, and the index (R52) -/

theorem contribution_eq_some_iff (img : Bank) (l : Live) (k : Fin 4) (c : Nat) :
    contribution img l k = some c ↔ (presented img l.slots (hazeSlot k)).valid = true ∧
      c = min ((presented img l.slots (hazeSlot k)).value.toNat * hazeWeight img k / 256) 1000 := by
  rw [contribution, seen, Option.ite_none_right_eq_some, Option.some_inj]
  exact and_congr_right fun _ => eq_comm

theorem some_mem_contributions_iff (img : Bank) (l : Live) (c : Nat) :
    some c ∈ allHeads.map (contribution img l) ↔ ∃ k, contribution img l k = some c := by
  simp [allHeads]

theorem indexNow_eq_none_iff (img : Bank) (l : Live) :
    indexNow img l = none ↔ ∀ k c, contribution img l k ≠ some c := by
  simp only [indexNow, worst_eq_none_iff, some_mem_contributions_iff, not_exists]
  exact forall_comm

theorem contribution_of_indexNow_eq {img : Bank} {l : Live} {x : Nat} (index : indexNow img l = some x) :
    ∃ k, contribution img l k = some x :=
  (some_mem_contributions_iff img l x).mp (some_mem_of_worst_eq index)

theorem contribution_le_of_indexNow_eq {img : Bank} {l : Live} {x c : Nat} {k : Fin 4}
    (index : indexNow img l = some x) (of_k : contribution img l k = some c) : c ≤ x :=
  le_of_worst_eq index ((some_mem_contributions_iff img l c).mpr ⟨k, of_k⟩)

/-- Settles O20: a head contributes exactly where its slot is valid, and the index is the greatest contribution. -/
theorem contaminationIndexIsTheGreatestContribution : Obligations.ContaminationIndexIsTheGreatestContribution := by
  intro img l valid part
  have contributes (k : Fin 4) (c : Nat) : contribution img l k = some c ↔ valid k ∧ c = part k :=
    contribution_eq_some_iff img l k c
  constructor
  · simp only [indexNow_eq_none_iff, ne_eq, contributes, not_and]
    exact forall_congr' fun k => ⟨fun none_fits ok => none_fits _ ok rfl, fun absent _ ok => absurd ok absent⟩
  · intro x index
    obtain ⟨k, of_k⟩ := contribution_of_indexNow_eq index
    obtain ⟨ok, x_eq⟩ := (contributes k x).mp of_k
    have upper (j : Fin 4) (ok_j : valid j) : part j ≤ x :=
      contribution_le_of_indexNow_eq index ((contributes j _).mpr ⟨ok_j, rfl⟩)
    exact ⟨x_eq ▸ Nat.min_le_right _ _, ⟨k, ok, x_eq⟩, upper⟩

end Sys2Proof.Machine

/-! The zone planner (chapter 5): the step of the stage targets. -/

namespace Sys2Proof.Machine

/-! ### The first of an ordered list that passes a test -/

theorem find?_eq_some_of_least {α : Type} {before : α → α → Prop} {test : α → Bool} {a : α} {xs : List α}
    (ordered : xs.Pairwise before) (mem : a ∈ xs) (passes : test a = true)
    (earlier_fail : ∀ b ∈ xs, before b a → test b = false) : xs.find? test = some a := by
  induction ordered with
  | nil => exact absurd mem List.not_mem_nil
  | @cons x rest x_before _ ih =>
    obtain rfl | later := List.mem_cons.mp mem
    · exact List.find?_cons_of_pos passes
    · have x_fails : test x = false := earlier_fail x List.mem_cons_self (x_before a later)
      rw [List.find?_cons_of_neg (Bool.eq_false_iff.mp x_fails)]
      exact ih later fun b b_mem => earlier_fail b (List.mem_cons_of_mem x b_mem)

/-! ### The order of the stages -/

theorem allStages_increasing : allStages.Pairwise (· < ·) := List.pairwise_lt_finRange 4

theorem allStages_reverse_decreasing : allStages.reverse.Pairwise (· > ·) :=
  List.pairwise_reverse.mpr allStages_increasing

theorem mem_allStages_reverse (n : Fin 4) : n ∈ allStages.reverse :=
  List.mem_reverse.mpr (List.mem_finRange n)

/-! ### The step below, at and above the requested count (R91) -/

section StageStep

variable {bound : List (Fin 4)} {request : Nat} {targets : Vector Bool 4} {n : Fin 4}

theorem stepStages_at (at_count : (allStages.filter fun n => targets.get n).length = request) :
    stepStages bound request targets = targets := by
  simp only [stepStages, at_count, Nat.lt_irrefl, if_false]

/-- With no bound stage left to switch on, a step below the count changes nothing. -/
theorem stepStages_below_of_all_on (below : (allStages.filter fun n => targets.get n).length < request)
    (all_on : ∀ n ∈ bound, targets.get n = true) : stepStages bound request targets = targets := by
  have none_off : (bound.find? fun n => !targets.get n) = none :=
    List.find?_eq_none.mpr fun n mem => by simp [all_on n mem]
  simp only [stepStages, below, if_true, none_off]

theorem stepStages_below (increasing : bound.Pairwise (· < ·))
    (below : (allStages.filter fun n => targets.get n).length < request) (mem : n ∈ bound)
    (off : targets.get n = false) (lower_on : ∀ m ∈ bound, m < n → targets.get m = true) :
    stepStages bound request targets = targets.set n true := by
  have lowest_off : (bound.find? fun n => !targets.get n) = some n :=
    find?_eq_some_of_least increasing mem (by simp [off]) fun m m_mem lower => by simp [lower_on m m_mem lower]
  simp only [stepStages, below, if_true, lowest_off]

theorem stepStages_above (above : request < (allStages.filter fun n => targets.get n).length)
    (on : targets.get n = true) (higher_off : ∀ m, n < m → targets.get m = false) :
    stepStages bound request targets = targets.set n false := by
  have highest_on : (allStages.reverse.find? fun n => targets.get n) = some n :=
    find?_eq_some_of_least allStages_reverse_decreasing (mem_allStages_reverse n) on fun m _ higher => higher_off m higher
  simp only [stepStages, Nat.not_lt_of_gt above, above, if_false, if_true, highest_on]

end StageStep

/-- Settles O26: the bound stages stand in rising order, so the first that is off is the lowest, and the first of the
reversed stages that is on is the highest. -/
theorem stageTargetsStepByOne : Obligations.StageTargetsStepByOne := by
  intro bound request targets bound_eq on new
  have increasing : bound.Pairwise (· < ·) := bound_eq ▸ allStages_increasing.filter _
  refine ⟨stepStages_at, stepStages_below_of_all_on, ?below, ?above⟩
  case below =>
    intro n below mem off lower_on
    exact stepStages_below increasing below mem off fun m m_mem lower => lower_on m lower m_mem
  case above =>
    intro n above stage_on higher_off
    exact stepStages_above above stage_on higher_off

end Sys2Proof.Machine

/-! The load budget (chapter 6): the committed load after one record changes, and the answers to the SET of a blower. -/

namespace Sys2Proof.Machine

/-! ### The committed load (R99) -/

/-- One entry of a list written: the sum loses the old entry and gains the new one. -/
theorem sum_set_add_getElem (xs : List Nat) (i : Nat) (x : Nat) (inside : i < xs.length) :
    (xs.set i x).sum + xs[i] = xs.sum + x := by
  induction xs generalizing i with
  | nil => cases inside
  | cons head rest ih =>
    cases i with
    | zero => simp only [List.set_cons_zero, List.sum_cons, List.getElem_cons_zero]; omega
    | succ i =>
      have tail := ih i (Nat.lt_of_succ_lt_succ inside)
      simp only [List.set_cons_succ, List.sum_cons, List.getElem_cons_succ]
      omega

theorem committed_set_add (b : Budget) (r : Role) (c : Consumer) :
    ({ b with consumers := b.consumers.set r c } : Budget).committed + (b.consumers.get r).commitment =
      b.committed + c.commitment := by
  have entry := sum_set_add_getElem (b.consumers.toList.map (·.commitment)) r.val c.commitment (by simp)
  simpa only [Budget.committed, Vector.toList_set, List.map_set, List.getElem_map, Vector.getElem_toList, get_eq] using entry

theorem commitment_le_committed (b : Budget) (r : Role) : (b.consumers.get r).commitment ≤ b.committed := by
  let uncounted : Consumer := { accepted := 0, transit := none, commitment := 0 }
  calc (b.consumers.get r).commitment
      ≤ ({ b with consumers := b.consumers.set r uncounted } : Budget).committed + (b.consumers.get r).commitment :=
        Nat.le_add_left _ _
    _ = b.committed + 0 := committed_set_add b r uncounted
    _ = b.committed := Nat.add_zero _

theorem committed_set (b : Budget) (r : Role) (c : Consumer) :
    ({ b with consumers := b.consumers.set r c } : Budget).committed =
      b.committed - (b.consumers.get r).commitment + c.commitment := by
  have balance := committed_set_add b r c
  have counted := commitment_le_committed b r
  omega

/-! ### The load of a blower (R99) -/

theorem isBlower_iff (r : Role) : isBlower r = true ↔ 12 ≤ r.val ∧ r.val < 16 := decide_eq_true_iff

theorem loadOf_of_blower {r : Role} (blower : isBlower r = true) (img : Bank) (level : Nat) :
    loadOf img r level = (level * blowerRated img (zoneOf r) + 999) / 1000 :=
  if_pos blower

/-- The load of a blower grows with its level. -/
theorem max_loadOf_of_le {r : Role} (blower : isBlower r = true) (img : Bank) {low high : Nat} (le : low ≤ high) :
    max (loadOf img r low) (loadOf img r high) = loadOf img r high := by
  refine Nat.max_eq_right ?_
  simp only [loadOf_of_blower blower]
  exact Nat.div_le_div_right (Nat.add_le_add_right (Nat.mul_le_mul_right _ le) _)

/-- The capped level is rounded down and its load up, and still the load stays within the room. -/
theorem loadOf_cappedLevel_le {r : Role} (blower : isBlower r = true) (img : Bank) (level room : Nat) :
    loadOf img r (cappedLevel img r level room) ≤ room := by
  have product : cappedLevel img r level room * blowerRated img (zoneOf r) ≤ room * 1000 := calc
    _ ≤ room * 1000 / blowerRated img (zoneOf r) * blowerRated img (zoneOf r) :=
      Nat.mul_le_mul_right _ (Nat.min_le_right _ _)
    _ ≤ room * 1000 := Nat.div_mul_le_self _ _
  rw [loadOf_of_blower blower]
  omega

/-! ### The answers to a SET of a blower (R102) -/

section BlowerSet

variable {img : Bank} {r : Role} {w : Nat} {b : Budget} (blower : isBlower r = true)
include blower

theorem askSet_of_blower : askSet img r w b = askBlower img r w b :=
  if_pos blower

theorem askSet_blower_admitted (fits : w ≤ (b.consumer r).accepted ∨ blowerRated img (zoneOf r) = 0 ∨
    b.committed - (b.consumer r).commitment + loadOf img r w ≤ b.avail) :
    askSet img r w b = (.admitted, b.onConsumer r (admitLevel img r w)) := by
  simp only [askSet_of_blower blower, askBlower, if_pos fits]

/-- An increase that does not fit is answered by comparing the accepted level with the level that the room affords. -/
theorem askSet_blower_exceeding (increase : (b.consumer r).accepted < w) (rated : blowerRated img (zoneOf r) ≠ 0)
    (exceeds : b.avail < b.committed - (b.consumer r).commitment + loadOf img r w) : askSet img r w b =
    let lower := cappedLevel img r w (b.avail - (b.committed - (b.consumer r).commitment))
    if (b.consumer r).accepted < lower then (.capped lower, b.onConsumer r (admitLevel img r lower)) else (.held, b) := by
  have unfit : ¬(w ≤ (b.consumer r).accepted ∨ blowerRated img (zoneOf r) = 0 ∨
      b.committed - (b.consumer r).commitment + loadOf img r w ≤ b.avail) :=
    not_or.mpr ⟨Nat.not_le_of_lt increase, not_or.mpr ⟨rated, Nat.not_le_of_lt exceeds⟩⟩
  simp only [askSet_of_blower blower, askBlower, if_neg unfit]

/-- A SET admitted above the accepted level brings the committed load to the rest and the load of the new level. -/
theorem committed_admitLevel_of_increase (increase : (b.consumer r).accepted < w) :
    (b.onConsumer r (admitLevel img r w)).committed =
      b.committed - (b.consumer r).commitment + loadOf img r w := by
  have greater : max (loadOf img r (b.consumer r).accepted) (loadOf img r w) = loadOf img r w :=
    max_loadOf_of_le blower img (Nat.le_of_lt increase)
  exact (committed_set b r _).trans (congrArg _ greater)

end BlowerSet

/-- Settles O29: the three answers are the branches of the blower's question, a level's load grows with the level, and the
load of the capped level stays within the room. -/
theorem blowerSetsAreAdmittedCappedOrHeld : Obligations.BlowerSetsAreAdmittedCappedOrHeld := by
  intro img r w b first last c rated load rest lower counted
  have blower : isBlower r = true := (isBlower_iff r).mpr ⟨first, last⟩
  have load_eq (level : Nat) : loadOf img r level = load level := loadOf_of_blower blower img level
  have counted_eq (level : Nat) : b.onConsumer r (admitLevel img r level) = counted level := by
    simp only [Budget.onConsumer, updateAt, admitLevel, load_eq, counted, c]
  refine ⟨fun reduction => ?reduction, fun increase fits => ⟨?fits, ?greater⟩,
    fun increase exceeds rated_ne above => ⟨?capped, ?within, fun rest_le => ?committed⟩,
    fun increase exceeds rated_ne below => ?held, fun unrated => ?unrated⟩
  case reduction => rw [askSet_blower_admitted blower (.inl reduction), counted_eq]
  case fits => rw [askSet_blower_admitted blower (.inr (.inr (load_eq w ▸ fits))), counted_eq]
  case greater =>
    simp only [← load_eq]
    exact max_loadOf_of_le blower img (Nat.le_of_lt increase)
  case capped =>
    rw [askSet_blower_exceeding blower increase rated_ne (load_eq w ▸ exceeds), ← counted_eq]
    exact if_pos above
  case within => exact load_eq lower ▸ loadOf_cappedLevel_le blower img w (b.avail - rest)
  case committed =>
    have within : loadOf img r lower ≤ b.avail - rest := loadOf_cappedLevel_le blower img w (b.avail - rest)
    calc (counted lower).committed = rest + loadOf img r lower := by
          rw [← counted_eq]; exact committed_admitLevel_of_increase blower above
      _ ≤ rest + (b.avail - rest) := Nat.add_le_add_left within rest
      _ = b.avail := Nat.add_sub_of_le rest_le
  case held =>
    rw [askSet_blower_exceeding blower increase rated_ne (load_eq w ▸ exceeds)]
    exact if_neg (Nat.not_lt.mpr below)
  case unrated => rw [askSet_blower_admitted blower (.inr (.inl unrated))]

end Sys2Proof.Machine

/-! Management requests and table images (chapter 9): how a request is carried out at once, the bytes that a wrapping read
returns, and the requests that read a bank and copy ACTIVE. -/

namespace Sys2Proof.Machine

/-! ### A request carried out at once (R158) -/

theorem State.takes_iff (s : State) : s.takes = true ↔
    s.held = false ∧ s.live.port.onBus = true ∧ s.live.part.state ≠ .watch ∧ s.live.management.inProgress = none ∧
      ¬(s.live.part.state = .waking ∧ s.live.link.state = .failed) := by
  simp only [State.takes, Bool.and_eq_true, Bool.not_eq_true', bne_iff_ne, Option.isNone_iff_eq_none,
    Bool.and_eq_false_iff, beq_eq_false_iff_ne, Decidable.not_and_iff_not_or_not, ne_eq, and_assoc]

section Takes

variable {s : State} (takes : s.takes = true) {body : State → State}
include takes

/-- Neither the wake before a request nor the entry to RUN after it (R156, R183) happens where the body keeps the part state
and the link state. -/
theorem takeRequest_of_takes (part : (body s).live.part.state = s.live.part.state)
    (link : (body s).live.link.state = s.live.link.state) : takeRequest body s = body s := by
  obtain ⟨free, onBus, awake, -, settled⟩ := s.takes_iff.mp takes
  have wake : wakeForRequest s = s := if_neg awake
  have check : wakeCheck (body s).active (body s).live = (body s).live :=
    if_neg (by rwa [part, link])
  simp only [takeRequest, free, onBus, wake, State.onLive, check, Bool.false_eq_true, Bool.true_eq_false, or_self,
    if_false]

theorem orBusy_of_takes (code : Byte) : orBusy code body s = body s := by
  obtain ⟨-, -, -, idle, -⟩ := s.takes_iff.mp takes
  simp only [orBusy, idle, Option.isSome_none, Bool.false_eq_true, if_false]

theorem requestKeeping_of_takes (code : Byte) (part : (body s).live.part.state = s.live.part.state)
    (link : (body s).live.link.state = s.live.link.state) : requestKeeping code body s = body s := by
  have carried := orBusy_of_takes takes code (body := body)
  exact (takeRequest_of_takes takes (carried ▸ part) (carried ▸ link)).trans carried

theorem request_of_takes (code : Byte) (part : (body s).live.part.state = s.live.part.state)
    (link : (body s).live.link.state = s.live.link.state) : request code body s = resetRange (body s) := by
  have carried := orBusy_of_takes takes code (body := fun t => resetRange (body t))
  exact (takeRequest_of_takes takes (carried ▸ part) (carried ▸ link)).trans carried

/-- A request that keeps the rule-range sequence and only reports leaves its reply and nothing else. -/
theorem requestKeeping_report (code : Byte) {c : Byte} {result : Nat} {data : List Byte}
    (report : body s = answer c result data s) : requestKeeping code body s = answer c result data s := by
  rw [requestKeeping_of_takes takes code] <;> simp only [report, answer_live, reply_part, reply_link]

end Takes

/-! ### Bytes read with the wrap in the page (R162, R163) -/

theorem readWrapped_eq_map (b : Bank) (page n off : Nat) :
    readWrapped b page off n = (List.range n).map fun k => readByte b (128 * page + (off + k) % 128) := by
  induction n generalizing off with
  | zero => rfl
  | succ n ih =>
    have next (k : Nat) : ((off + 1) % 128 + k) % 128 = (off + (k + 1)) % 128 := by omega
    simp only [readWrapped, ih, next, List.range_succ_eq_map, List.map_cons, List.map_map, Function.comp_def, addressOf,
      Nat.add_zero, Nat.succ_eq_add_one]

/-! ### The requests that read and copy banks (R163) -/

theorem readPageBody_of_named {bank page offset : Nat} (named : page ≤ 19 ∧ offset ≤ 127 ∧ bank ≤ 1) (s : State) :
    readPageBody bank page offset s =
      answer 0x22 0 (readWrapped (if bank = 0 then s.active else s.loading) page offset 6) s := by
  obtain ⟨page_le, offset_le, bank_le⟩ := named
  have inside : ¬(19 < page ∨ 127 < offset) := by omega
  obtain rfl | rfl : bank = 0 ∨ bank = 1 := by omega
  · simp only [readPageBody, if_neg inside, if_true, rDone]
  · simp only [readPageBody, if_neg inside, if_true, Nat.one_ne_zero, if_false, rDone]

theorem readPageBody_of_not_named {bank page offset : Nat} (unnamed : ¬(page ≤ 19 ∧ offset ≤ 127 ∧ bank ≤ 1))
    (s : State) : readPageBody bank page offset s = answer 0x22 4 [] s := by
  by_cases outside : 19 < page ∨ 127 < offset
  · simp only [readPageBody, if_pos outside, rRange]
  · have not_active : bank ≠ 0 := by omega
    have not_pending : bank ≠ 1 := by omega
    simp only [readPageBody, if_neg outside, if_neg not_active, if_neg not_pending, rRange]

/-- Settles O11: each of the three is carried out at once; READ_PAGE and CHECK_PENDING only report, and COPY_ACTIVE, which
neither moves the part nor the link, resets the rule range. -/
theorem bankRequestsReadAndCopy : Obligations.BankRequestsReadAndCopy := by
  intro s takes
  refine ⟨fun bank page offset => congrArg Host.Outcome.next ?readPage, congrArg Host.Outcome.next ?copyActive,
    congrArg Host.Outcome.next ?checkPending⟩
  case readPage =>
    by_cases named : page ≤ 19 ∧ offset ≤ 127 ∧ bank ≤ 1
    · rw [if_pos named, ← readWrapped_eq_map]
      exact requestKeeping_report takes 0x22 (readPageBody_of_named named s)
    · rw [if_neg named]
      exact requestKeeping_report takes 0x22 (readPageBody_of_not_named named s)
  case copyActive => exact request_of_takes takes 0x23 (body := copyActiveBody) rfl rfl
  case checkPending => exact requestKeeping_report takes 0x24 (body := checkPendingBody) rfl

end Sys2Proof.Machine


/-! The collections of the sequencer (R117): the Move Queue stays in order, and an actuator's work in at most one
collection, once, through every operation of the sequencer. -/

namespace Sys2Proof.Machine

/-! ### The form of the collections -/

theorem rolesDistinct_iff (rs : List Role) : rolesDistinct rs = true ↔ rs.Nodup := by
  induction rs with
  | nil => simp [rolesDistinct]
  | cons r rest ih => simp [rolesDistinct, ih]

/-- The Move Queue is in order, and no actuator stands twice in the collections. -/
structure Works (l : Live) : Prop where
  ordered : queueOrdered l.sequencer.queue = true
  distinct : l.sequencer.workers.Nodup

theorem State.queueWf_iff (s : State) : s.queueWf = true ↔ Works s.live := by
  simp only [State.queueWf, Bool.and_eq_true, rolesDistinct_iff]
  exact ⟨fun ⟨o, d⟩ => ⟨o, d⟩, fun ⟨o, d⟩ => ⟨o, d⟩⟩

theorem tailInsert_perm (e : QueueEntry) (q : List QueueEntry) : (tailInsert e q).Perm (e :: q) := by
  unfold tailInsert
  split
  · exact List.perm_middle.trans ((List.filter_append_perm _ q).cons e)
  · exact List.perm_append_singleton e q

theorem headInsert_perm (e : QueueEntry) (q : List QueueEntry) : (headInsert e q).Perm (e :: q) := by
  unfold headInsert
  split
  · exact .refl _
  · exact List.perm_middle.trans ((List.filter_append_perm _ q).cons e)

/-- The order of the queue is one of the entries' classes alone. -/
theorem queueOrdered_map {f : QueueEntry → QueueEntry} (class_kept : ∀ e, (f e).urgent = e.urgent)
    (q : List QueueEntry) : queueOrdered (q.map f) = queueOrdered q := by
  induction q with
  | nil => rfl
  | cons e rest ih => simp only [List.map_cons, queueOrdered, class_kept, ih, List.all_map, Function.comp_def]

namespace Works

variable {l : Live}

/-- The collections alone decide. -/
protected theorem congr {m : Live} (h : Works l) (queue : m.sequencer.queue = l.sequencer.queue)
    (flight : m.sequencer.inFlight.map (·.role) = l.sequencer.inFlight.map (·.role))
    (place : m.sequencer.suspended = l.sequencer.suspended) : Works m :=
  ⟨queue ▸ h.ordered, by simpa only [Sequencer.workers, queue, flight, place] using h.distinct⟩

protected theorem of_sequencer {m : Live} (h : Works l) (same : m.sequencer = l.sequencer) : Works m :=
  h.congr (by rw [same]) (by rw [same]) (by rw [same])

/-- Work only leaves the collections. -/
protected theorem sublist {m : Live} (h : Works l) (ordered : queueOrdered m.sequencer.queue = true)
    (queue : m.sequencer.queue.Sublist l.sequencer.queue) (flight : m.sequencer.inFlight.Sublist l.sequencer.inFlight)
    (place : m.sequencer.suspended.toList.Sublist l.sequencer.suspended.toList) : Works m := by
  refine ⟨ordered, h.distinct.sublist ?_⟩
  have place_roles : (m.sequencer.suspended.map (·.role)).toList.Sublist (l.sequencer.suspended.map (·.role)).toList := by
    simpa only [Option.toList_map] using place.map (·.role)
  exact ((queue.map _).append (flight.map _)).append place_roles

/-- Work joins a collection for an actuator that has none. -/
protected theorem join {m : Live} {r : Role} (h : Works l) (ordered : queueOrdered m.sequencer.queue = true)
    (workers : m.sequencer.workers.Perm (r :: (leaveWork r l).sequencer.workers)) : Works m := by
  refine ⟨ordered, workers.nodup_iff.mpr (List.nodup_cons.mpr ?_)⟩
  rw [workers_leaveWork]
  exact ⟨by simp, h.distinct.filter _⟩

/-! ### The operations on the collections -/

protected theorem leaveWork (h : Works l) (r : Role) : Works (leaveWork r l) := by
  refine ⟨?_, workers_leaveWork r l ▸ h.distinct.filter _⟩
  rw [leaveWork_eq]
  exact queueOrdered_filter _ _ h.ordered

protected theorem placeTail (h : Works l) (e : QueueEntry) : Works (placeTail e l) := by
  refine h.join (r := e.role) ?_ ?_
  · rw [placeTail_eq]
    exact (queueOrdered_insert e _ (queueOrdered_filter _ _ h.ordered)).1
  · rw [placeTail_eq, leaveWork_eq]
    exact (((tailInsert_perm e _).map _).append_right _).append_right _

protected theorem placeHead (h : Works l) (e : QueueEntry) : Works (placeHead e l) := by
  refine h.join (r := e.role) ?_ ?_
  · rw [placeHead_eq]
    exact (queueOrdered_insert e _ (queueOrdered_filter _ _ h.ordered)).2
  · rw [placeHead_eq, leaveWork_eq]
    exact (((headInsert_perm e _).map _).append_right _).append_right _

protected theorem joinTail (h : Works l) (e : QueueEntry) : Works (joinTail e l) := h.placeTail _

protected theorem removeEntry (h : Works l) (r : Role) : Works (removeEntry r l) :=
  h.sublist (queueOrdered_filter _ _ h.ordered) List.filter_sublist (.refl _) (.refl _)

protected theorem removeItem (h : Works l) (r : Role) : Works (removeItem r l) :=
  h.sublist h.ordered (.refl _) List.filter_sublist (.refl _)

protected theorem emptied (h : Works l) : Works (setQueue [] l) :=
  h.sublist rfl (List.nil_sublist _) (.refl _) (.refl _)

protected theorem noSuspended (h : Works l) : Works (setSuspended none l) :=
  h.sublist h.ordered (.refl _) (.refl _) (List.nil_sublist _)

protected theorem updateItem (h : Works l) (r : Role) {f : Item → Item} (role_kept : ∀ i, (f i).role = i.role) :
    Works (updateItem r f l) := by
  refine h.congr rfl ?_ rfl
  have same : ((·.role) ∘ fun i : Item => if i.role = r then f i else i) = (·.role) := by
    funext i
    by_cases hi : i.role = r <;> simp [hi, role_kept]
  simp only [Machine.updateItem, setInFlight, List.map_map, same]

protected theorem updateEntry (h : Works l) (r : Role) {f : QueueEntry → QueueEntry}
    (role_kept : ∀ e, (f e).role = e.role) (class_kept : ∀ e, (f e).urgent = e.urgent) : Works (updateEntry r f l) := by
  have same : ((·.role) ∘ fun e : QueueEntry => if e.role = r then f e else e) = (·.role) := by
    funext e
    by_cases he : e.role = r <;> simp [he, role_kept]
  refine ⟨?_, ?_⟩
  · refine (queueOrdered_map (fun e => ?_) _).trans h.ordered
    split
    · exact class_kept e
    · rfl
  · simpa only [Machine.updateEntry, setQueue, Sequencer.workers, List.map_map, same] using h.distinct

protected theorem onActuator (h : Works l) (r : Role) (f : Actuator → Actuator) : Works (onActuator r f l) :=
  h.congr rfl rfl rfl

protected theorem setPending (h : Works l) (r : Role) (t : Option Target) : Works (setPending r t l) := h.onActuator r _

protected theorem setActuatorState (h : Works l) (r : Role) (st : ActuatorState) : Works (setActuatorState r st l) :=
  h.onActuator r _

protected theorem setArmed (h : Works l) (b : Bool) : Works (setArmed b l) := h.congr rfl rfl rfl

protected theorem withBudget (h : Works l) (b : Budget) : Works { l with budget := b } := h.congr rfl rfl rfl

/-- A move goes to the suspended place, its actuator's work having left. -/
protected theorem suspend (h : Works l) (m : Suspended) : Works (setSuspended (some m) (Machine.leaveWork m.role l)) := by
  refine h.noSuspended.join (r := m.role) (h.leaveWork m.role).ordered ?_
  rw [leaveWork_eq, leaveWork_eq]
  exact List.perm_append_singleton m.role _ |>.trans (by simp [Sequencer.workers, setSuspended])

end Works

end Sys2Proof.Machine


/-! What the latches, the budget and the arbiter leave of the sequencer, and that issue, offer, target arrival, shedding and
every end of work keep the collections in form (R117). -/

namespace Sys2Proof.Machine

/-! ### What leaves the sequencer alone -/

@[simp] theorem askStatusE_sequencer (l : Live) : (askStatusE l).sequencer = l.sequencer := by
  unfold askStatusE; split <;> rfl

@[simp] theorem latch_sequencer (k : Kind) (n : Nat) (l : Live) : (latch k n l).sequencer = l.sequencer := by
  unfold latch; dsimp only; split <;> simp

@[simp] theorem setCapped_sequencer (z : Fin 4) (l : Live) : (setCapped z l).sequencer = l.sequencer := by
  unfold setCapped; split <;> simp

@[simp] theorem arbitrate_sequencer (l : Live) : (arbitrate l).sequencer = l.sequencer := by
  unfold arbitrate; repeat' split
  all_goals rfl

@[simp] theorem placeRequest_sequencer (o : LinkOwner) (a : Nat) (c : LinkCommand) (k : LinkClass) (l : Live) :
    (placeRequest o a c k l).sequencer = l.sequencer := by
  simp [placeRequest]

@[simp] theorem placeHalt_sequencer (img : Bank) (it : Item) (c : LinkClass) (l : Live) :
    (placeHalt img it c l).sequencer = l.sequencer := by
  simp [placeHalt]

namespace Works

variable {l : Live}

protected theorem latch (h : Works l) (k : Kind) (n : Nat) : Works (latch k n l) := h.of_sequencer (by simp)

protected theorem placeRequest (h : Works l) (o : LinkOwner) (a : Nat) (c : LinkCommand) (k : LinkClass) :
    Works (placeRequest o a c k l) := h.of_sequencer (by simp)

protected theorem placeHalt (h : Works l) (img : Bank) (it : Item) (c : LinkClass) : Works (placeHalt img it c l) :=
  h.of_sequencer (by simp)

protected theorem withdrawRole (h : Works l) (r : Role) : Works (withdrawRole r l) := h.of_sequencer rfl

protected theorem setCapped (h : Works l) (z : Fin 4) : Works (setCapped z l) := h.of_sequencer (by simp)

protected theorem report (h : Works l) (r : Role) (f : Consumer → Consumer) : Works (report r f l).1 :=
  h.of_sequencer rfl

protected theorem dropShed (h : Works l) (r : Role) : Works (dropShed r l) := h.of_sequencer rfl

protected theorem foldl {α : Type} {f : Live → α → Live} (hf : ∀ m a, Works m → Works (f m a)) (xs : List α)
    (h : Works l) : Works (xs.foldl f l) := by
  induction xs generalizing l with
  | nil => exact h
  | cons x rest ih => exact ih (hf l x h)

/-! ### Issue, halts and the offer (R120 to R125) -/

protected theorem startItem (h : Works l) (img : Bank) (r : Role) (k : WorkKind) (n m : Nat) (u s : Bool) (a : Nat) :
    Works (startItem img r k n m u s a l) := by
  unfold startItem
  dsimp only
  refine Works.placeRequest (Works.onActuator ?_ ..) ..
  refine h.join (r := r) (h.leaveWork r).ordered ?_
  simp only [Sequencer.workers, List.map_append, List.map_cons, List.map_nil]
  exact ((List.perm_append_singleton r _).append_left _).trans List.perm_middle |>.append_right _

protected theorem issue (h : Works l) (img : Bank) (e : QueueEntry) (n a : Nat) : Works (issue img e n a l) :=
  h.startItem ..

protected theorem haltItem (h : Works l) (img : Bank) (why : HaltReason) (it : Item) : Works (haltItem img why it l) :=
  ((h.updateItem it.role (fun _ => by rfl)).withdrawRole _).placeHalt ..

protected theorem returnUnsent (h : Works l) (img : Bank) (e : QueueEntry) : Works (returnUnsent img e l) :=
  (h.onActuator _ _).placeHead _

protected theorem putEntry (h : Works l) (img : Bank) (e : QueueEntry) : Works (putEntry img e l).1 := by
  unfold putEntry
  split
  · exact h
  split
  · exact h.returnUnsent img e
  split
  · dsimp only
    split
    · split
      · exact ((h.withBudget _).of_sequencer rfl).issue ..
      · exact (h.withBudget _).issue ..
    · exact ((h.withBudget _).setCapped _).issue ..
    · exact (h.withBudget _).setCapped _
    · exact h.withBudget _
  · dsimp only
    split
    · exact (h.withBudget _).issue ..
    · exact h.withBudget _

protected theorem putEntries (h : Works l) (img : Bank) (skip : QueueEntry → Bool) (es : List QueueEntry) :
    Works (putEntries img skip es l).1 := by
  induction es generalizing l with
  | nil => exact h
  | cons e rest ih =>
    unfold putEntries
    split
    · exact ih h
    · exact ih (h.putEntry img e)

protected theorem trySuspend (h : Works l) (img : Bank) : Works (trySuspend img l) := by
  unfold trySuspend
  dsimp only
  repeat' split
  · exact h.setArmed _
  · exact h.setArmed _
  · exact (h.setArmed _).haltItem ..
  · exact h

protected theorem offerResume (h : Works l) (img : Bank) : Works (offerResume img l).1 := by
  unfold offerResume
  dsimp only
  repeat' split
  · exact h
  · exact h
  · exact ((h.withBudget _).noSuspended.onActuator _ _).startItem ..
  · exact h.withBudget _

protected theorem offerNow (h : Works l) (img : Bank) : Works (offerNow img l) := by
  unfold offerNow
  dsimp only
  have urgent := h.putEntries img (fun _ => false) (l.sequencer.queue.filter fun e => e.urgent)
  split
  · exact urgent.trySuspend img
  · split
    · exact (urgent.offerResume img).putEntries ..
    · exact urgent.putEntries ..

protected theorem offer (h : Works l) (img : Bank) : Works (offer img l) := by
  unfold offer
  split
  · exact h.offerNow img
  · exact h

protected theorem roomNotice (h : Works l) (img : Bank) : Works (roomNotice img l) := (h.setArmed true).offer img

protected theorem afterRelease (h : Works l) (img : Bank) (b : Bool) : Works (afterRelease img b l) := by
  unfold afterRelease
  split
  · exact h.roomNotice img
  · exact h

protected theorem offerAfter (h : Works l) (img : Bank) (b : Bool) : Works (offerAfter img b l) := by
  unfold offerAfter
  split
  · exact h.roomNotice img
  · exact h.offer img

protected theorem releaseMotion (h : Works l) (img : Bank) (r : Role) : Works (releaseMotion img r l) :=
  (h.report r _).afterRelease ..

/-! ### Target arrival (R118, R119) -/

protected theorem arrivalIdle (h : Works l) (img : Bank) (r : Role) (t : Target) : Works (arrivalIdle img r t l) := by
  unfold arrivalIdle
  split
  · exact h
  · exact (h.joinTail _).setActuatorState ..

protected theorem replaceLevel (h : Works l) (e : QueueEntry) (t : Target) : Works (replaceLevel e t l) := by
  unfold replaceLevel
  split
  · exact h.placeTail _
  · exact h.updateEntry _ (fun _ => by rfl) fun _ => by rfl

protected theorem arrivalQueued (h : Works l) (img : Bank) (r : Role) (t : Target) (e : QueueEntry) :
    Works (arrivalQueued img r t e l) := by
  unfold arrivalQueued
  dsimp only
  repeat' split
  · exact h.setPending ..
  · exact (h.removeEntry r).setActuatorState ..
  · exact ((h.removeEntry r).setActuatorState ..).releaseMotion ..
  · exact h.replaceLevel ..

protected theorem arrivalUncertain (h : Works l) (r : Role) (t : Target) : Works (arrivalUncertain r t l) := by
  unfold arrivalUncertain
  dsimp only
  repeat' split
  · exact (h.joinTail _).setPending ..
  · exact h.joinTail _
  · exact (h.setPending ..).placeTail _
  · exact h.setPending ..
  · exact h.replaceLevel ..

protected theorem arrivalSuspended (h : Works l) (img : Bank) (r : Role) (t : Target) :
    Works (arrivalSuspended img r t l) := by
  unfold arrivalSuspended
  repeat' split
  · exact h
  · exact h
  · exact (h.setActuatorState ..).noSuspended.arrivalIdle ..

protected theorem arrivalInFlight (h : Works l) (img : Bank) (r : Role) (t : Target) (it : Item) :
    Works (arrivalInFlight img r t it l) := by
  have pending (t : Option Target) : Works (setPending r t l) := h.setPending r t
  unfold arrivalInFlight
  dsimp only
  repeat' split
  · exact pending _
  · exact pending _
  · exact pending _
  · exact (h.updateItem r (fun _ => by rfl)).setPending ..
  · exact (pending _).haltItem ..
  · exact pending _
  · exact (pending _).updateItem r (fun _ => by rfl)
  · exact pending _
  · exact pending _

protected theorem arrivalBody (h : Works l) (img : Bank) (r : Role) (t : Target) : Works (arrivalBody img r t l) := by
  unfold arrivalBody
  repeat' split
  · exact h.arrivalInFlight ..
  · exact h.arrivalIdle ..
  · exact h.arrivalUncertain ..
  · exact h.arrivalQueued ..
  · exact h
  · exact h.arrivalSuspended ..
  · exact h

/-- A target's arrival keeps the collections in form. -/
protected theorem targetArrival (h : Works l) (img : Bank) (r : Role) (t : Target) : Works (targetArrival img r t l) :=
  ((h.onActuator _ _).arrivalBody img r t).offer img

/-! ### Shedding (R105, R106, R129) -/

protected theorem shedOrder (h : Works l) (img : Bank) (r : Role) (n : Nat) : Works (shedOrder img r n l) := by
  unfold shedOrder
  repeat' split
  · exact h.updateItem r (fun _ => by rfl)
  · exact (h.joinTail _).offer img
  · exact ((h.joinTail _).setActuatorState ..).offer img
  · exact h

protected theorem orderShed (h : Works l) (img : Bank) (r : Role) (n : Nat) : Works (orderShed img r n l) := by
  unfold orderShed
  dsimp only
  split
  · exact ((h.withBudget _).setCapped _).shedOrder ..
  · exact (h.withBudget _).shedOrder ..

protected theorem shedFrom (h : Works l) (img : Bank) (rs : List Role) (e : Int) : Works (shedFrom img rs e l).1 := by
  induction rs generalizing e l with
  | nil => exact h
  | cons r rest ih =>
    unfold shedFrom
    repeat' split
    · exact h
    · exact ih h e
    · exact ih h e
    · exact ih (h.orderShed ..) _

protected theorem testShed (h : Works l) (img : Bank) : Works (testShed img l) := by
  unfold testShed
  dsimp only
  repeat' split
  · exact h
  · exact (h.shedFrom ..).latch ..
  · exact h.shedFrom ..

/-! ### How work ends (R121 to R129) -/

protected theorem serve (h : Works l) (img : Bank) (r : Role) : Works (serve img r l) := by
  unfold serve
  dsimp only
  repeat' split
  · exact h
  · exact h
  · exact (h.setPending ..).targetArrival ..
  · exact h.setPending ..
  · exact (((h.setPending ..).setActuatorState ..).joinTail _).offer img
  · exact ((h.setPending ..).joinTail _).offer img
  · exact h.setPending ..

protected theorem placeKeptOrder (h : Works l) (it : Item) : Works (placeKeptOrder it l) := by
  unfold placeKeptOrder
  split
  · exact h
  · exact (h.joinTail _).setActuatorState ..

protected theorem setAccepted (h : Works l) (img : Bank) (it : Item) : Works (setAccepted img it l) := by
  have ended : Works (report it.role (acceptedSet img it.role) (onActuator it.role
      (fun a => { a with position := it.level, state := restState a.state }) (removeItem it.role l))).1 :=
    ((h.removeItem _).onActuator _ _).report ..
  have unlisted (m : Live) (hm : Works m) : Works (if it.shed then dropShed it.role m else m) := by
    split
    · exact hm.dropShed _
    · exact hm
  have offered (m : Live) (hm : Works m) : Works (if it.shedOrder.isSome then offer img m else m) := by
    split
    · exact hm.offer img
    · exact hm
  exact ((offered _ ((unlisted _ ended).placeKeptOrder it)).afterRelease ..).serve ..

protected theorem returnEntry (h : Works l) (img : Bank) (it : Item) : Works (returnEntry img it l) := by
  unfold returnEntry
  dsimp only
  split
  · exact (h.placeHead _).setActuatorState ..
  · exact h.placeHead _

protected theorem pendingAtEntry (h : Works l) (img : Bank) (r : Role) : Works (pendingAtEntry img r l) := by
  unfold pendingAtEntry
  split
  · exact h
  · exact (h.setPending ..).arrivalBody ..

protected theorem setFailed (h : Works l) (img : Bank) (it : Item) : Works (setFailed img it l) := by
  have ended : Works (report it.role (endedSet img it.role) (setRetry img it.role (removeItem it.role l))).1 :=
    ((h.removeItem _).onActuator _ _).report ..
  unfold setFailed
  dsimp only
  repeat' split
  · exact ((((ended.onActuator _ _).dropShed _).afterRelease ..).testShed img).serve ..
  · exact ((((ended.onActuator _ _).placeKeptOrder it).offer img).afterRelease ..).serve ..
  · exact (((ended.returnEntry ..).pendingAtEntry ..).afterRelease ..).offer img
  · exact (((ended.returnEntry ..).setPending ..).afterRelease ..).offer img
  · exact ((ended.onActuator _ _).afterRelease ..).serve ..

protected theorem becomeFaulted (h : Works l) (r : Role) (why : FaultReason) : Works (becomeFaulted r why l) := by
  unfold becomeFaulted
  dsimp only
  split
  · exact h.onActuator ..
  · exact (h.onActuator _ _).latch ..

protected theorem dropShedAndTest (h : Works l) (img : Bank) (r : Role) : Works (dropShedAndTest img r l) := by
  unfold dropShedAndTest
  split
  · exact (h.dropShed r).testShed img
  · exact h

protected theorem setRefused (h : Works l) (img : Bank) (why : FaultReason) (it : Item) :
    Works (setRefused img why it l) :=
  (((((h.removeItem _).becomeFaulted ..).report ..).dropShedAndTest ..).afterRelease ..).serve ..

protected theorem motionAccepted (h : Works l) (img : Bank) (it : Item) : Works (motionAccepted img it l) := by
  unfold motionAccepted
  dsimp only
  split
  · exact ((h.updateItem _ (fun _ => by rfl)).setPending ..).arrivalBody ..
  · exact h.updateItem _ (fun _ => by rfl)

protected theorem motionFailed (h : Works l) (img : Bank) (it : Item) : Works (motionFailed img it l) := by
  have ended : Works (setRetry img it.role (removeItem it.role l)) := (h.removeItem _).onActuator ..
  have placed (m : Live) (hm : Works m) : Works (if it.kind = .home then setActuatorState it.role .uncertain m else m) := by
    split
    · exact hm.setActuatorState ..
    · exact hm
  unfold motionFailed
  dsimp only
  split
  · refine Works.offer ?_ img
    split
    · exact ((placed _ ended).returnEntry ..).pendingAtEntry ..
    · exact (placed _ ended).returnEntry ..
  · exact ((ended.setActuatorState ..).setPending ..).releaseMotion ..

protected theorem motionFaulted (h : Works l) (img : Bank) (why : FaultReason) (it : Item) :
    Works (motionFaulted img why it l) :=
  ((((h.removeItem _).withdrawRole _).becomeFaulted ..).setPending ..).releaseMotion ..

protected theorem motionEnded (h : Works l) (img : Bank) (it : Item) (p : Nat) (b : Bool) :
    Works (motionEnded img it p b l) :=
  ((((h.removeItem _).withdrawRole _).onActuator _ _).releaseMotion ..).serve ..

protected theorem homeAgain (h : Works l) (img : Bank) (it : Item) : Works (homeAgain img it l) := by
  have ended : Works (setActuatorState it.role .uncertain (withdrawRole it.role (removeItem it.role l))) :=
    ((h.removeItem _).withdrawRole _).setActuatorState ..
  unfold homeAgain
  dsimp only
  split
  · exact ((ended.joinTail _).releaseMotion ..).offer img
  · exact (ended.setPending ..).releaseMotion ..

protected theorem motionOverrun (h : Works l) (img : Bank) (it : Item) (p : Nat) : Works (motionOverrun img it p l) := by
  unfold motionOverrun
  dsimp only
  repeat' split
  · exact ((h.onActuator _ _).latch ..).motionFaulted ..
  · exact ((h.onActuator _ _).latch ..).homeAgain ..
  · exact ((h.onActuator _ _).latch ..).motionEnded ..

protected theorem motionSuspended (h : Works l) (img : Bank) (it : Item) (p : Nat) :
    Works (motionSuspended img it p l) := by
  have placed := (h.onActuator it.role fun a => { a with state := .suspended, position := p }).suspend
    { role := it.role, level := it.level, position := p }
  have same : setSuspended (some { role := it.role, level := it.level, position := p })
      (leaveWork it.role (onActuator it.role (fun a => { a with state := .suspended, position := p }) l)) =
      setSuspended (some { role := it.role, level := it.level, position := p })
        (onActuator it.role (fun a => { a with state := .suspended, position := p }) (leaveWork it.role l)) := by
    rw [leaveWork_eq, leaveWork_eq]; rfl
  rw [same] at placed
  unfold motionSuspended
  dsimp only
  split
  · exact (placed.report ..).offerAfter ..
  · exact (((placed.setPending ..).arrivalBody ..).report ..).offerAfter ..

protected theorem haltAnswered (h : Works l) (img : Bank) (it : Item) (p : Nat) : Works (haltAnswered img it p l) := by
  unfold haltAnswered
  repeat' split
  · exact h.motionOverrun ..
  · exact h.motionEnded ..
  · exact h.motionEnded ..
  · exact h.motionSuspended ..
  · exact h

protected theorem haltFailed (h : Works l) (img : Bank) (it : Item) : Works (haltFailed img it l) := by
  unfold haltFailed
  split
  · exact h.placeHalt ..
  · exact h.placeHalt ..
  · exact h

protected theorem restartPoll (h : Works l) (img : Bank) (it : Item) : Works (restartPoll img it l) :=
  h.updateItem _ fun i => by split <;> rfl

protected theorem pollAnswered (h : Works l) (img : Bank) (it : Item) (p m : Nat) :
    Works (pollAnswered img it p m l) := by
  unfold pollAnswered
  dsimp only
  repeat' split
  · exact (h.onActuator _ _).motionFaulted ..
  · exact (h.onActuator _ _).motionEnded ..
  · exact (h.onActuator _ _).restartPoll ..

protected theorem itemOutcome (h : Works l) (img : Bank) (it : Item) (c : LinkCommand) (e : Ending) :
    Works (itemOutcome img it c e l) := by
  unfold itemOutcome
  split
  · exact h.setAccepted ..
  · exact h.setRefused ..
  · exact h.setRefused ..
  · exact h.setFailed ..
  · exact h.haltAnswered ..
  · exact h.haltFailed ..
  · exact h.pollAnswered ..
  · exact h.restartPoll ..
  · exact h.motionAccepted ..
  · exact h.motionFaulted ..
  · exact h.motionFaulted ..
  · exact h.motionFailed ..

/-- The end of an item's transaction keeps the collections in form. -/
protected theorem deliverToItem (h : Works l) (img : Bank) (r : Role) (id : Nat) (c : LinkCommand) (e : Ending) :
    Works (deliverToItem img r id c e l) := by
  unfold deliverToItem
  repeat' split
  · exact h.itemOutcome ..
  · exact h
  · exact h

/-! ### Nodes leaving and returning, faults, SETTLING, WATCH and activation (R131 to R136) -/

protected theorem abandon (h : Works l) (r : Role) : Works (abandon r l) :=
  ((h.withdrawRole r).leaveWork r).setPending ..

protected theorem reportAll (h : Works l) (f : Role → Consumer → Consumer) (rs : List Role) :
    Works (reportAll f rs l).1 := by
  induction rs generalizing l with
  | nil => exact h
  | cons r rest ih => exact ih (h.report r (f r))

protected theorem dropAllShed (h : Works l) (rs : List Role) : Works (dropAllShed rs l) :=
  Works.foldl (fun _ r hm => hm.dropShed r) rs h

protected theorem tellStates (h : Works l) (img : Bank) (f : Role → Consumer → Consumer) (rs : List Role) :
    Works (tellStates img f rs l).1 := by
  unfold tellStates
  dsimp only
  split
  · exact ((h.dropAllShed rs).reportAll ..).testShed img
  · exact (h.dropAllShed rs).reportAll ..

protected theorem reportStates (h : Works l) (img : Bank) (f : Role → Consumer → Consumer) (rs : List Role) :
    Works (reportStates img f rs l) := (h.tellStates ..).afterRelease ..

protected theorem rolesGone (h : Works l) (img : Bank) (rs : List Role) : Works (rolesGone img rs l) :=
  ((Works.foldl (fun _ r hm => (hm.abandon r).onActuator ..) rs h).tellStates ..).offerAfter ..

protected theorem nodeGone (h : Works l) (img : Bank) (serial : Nat) : Works (nodeGone img serial l) := h.rolesGone ..

protected theorem linkGone (h : Works l) (img : Bank) : Works (linkGone img l) := h.rolesGone ..

protected theorem serveKept (h : Works l) (img : Bank) (r : Role) : Works (serveKept img r l) := by
  unfold serveKept
  repeat' split
  · exact h.targetArrival ..
  · exact h
  · exact h

protected theorem rolesUncertain (h : Works l) (img : Bank) (rs : List Role) : Works (rolesUncertain img rs l) :=
  Works.foldl (fun _ r hm => hm.serveKept img r) rs
    ((Works.foldl (fun _ r hm => hm.setActuatorState r .uncertain) rs h).reportStates ..)

protected theorem nodeBound (h : Works l) (img : Bank) (serial : Nat) : Works (nodeBound img serial l) :=
  h.rolesUncertain ..

protected theorem clearFaultOf (h : Works l) (img : Bank) (r : Role) : Works (clearFaultOf img r l) := by
  unfold clearFaultOf
  dsimp only
  repeat' split
  · exact (h.onActuator _ _).rolesUncertain ..
  · exact ((h.onActuator _ _).setActuatorState ..).reportStates ..
  · exact ((h.onActuator _ _).setActuatorState ..).reportStates ..
  · exact ((h.onActuator _ _).setActuatorState ..).reportStates ..
  · exact (((h.onActuator _ _).withBudget _).setActuatorState ..).reportStates ..
  · exact ((h.onActuator _ _).setActuatorState ..).reportStates ..
  · exact h

protected theorem emptyQueue (h : Works l) : Works (emptyQueue l) := by
  unfold emptyQueue
  refine Works.foldl (fun m e hm => ?_) _ h.emptied
  dsimp only
  repeat' split
  · exact (hm.onActuator _ _).dropShed _
  · exact ((hm.onActuator _ _).report ..).dropShed _
  · exact hm.onActuator ..
  · exact (hm.onActuator _ _).report ..

protected theorem commandOff (h : Works l) (r : Role) : Works (commandOff r l) := by
  unfold commandOff
  repeat' split
  · exact h.setPending ..
  · exact (h.joinTail _).setActuatorState ..
  · exact h.joinTail _
  · exact h.joinTail _
  · exact h

protected theorem sequencerSettles (h : Works l) (img : Bank) : Works (sequencerSettles img l) := by
  have off : Works (setRoles.foldl (fun l r => commandOff r l) (emptyQueue l)) :=
    Works.foldl (fun _ r hm => hm.commandOff r) _ h.emptyQueue
  unfold sequencerSettles
  dsimp only
  split
  · exact (off.testShed img).offerAfter ..
  · exact off.offerAfter ..

protected theorem sequencerParks (h : Works l) : Works (sequencerParks l) := by
  unfold sequencerParks
  dsimp only
  refine Works.foldl (fun _ r hm => hm.setPending r none) _ ?_
  split
  · exact h
  · exact (h.onActuator _ _).noSuspended

protected theorem sequencerActivates (h : Works l) (old img : Bank) : Works (sequencerActivates old img l) := by
  have moved : Works ((changedRoles old img).foldl (fun l r =>
      let st := activatedState img l r
      let l := onActuator r (fun a => { a with state := st, overruns := 0, fault := none, guardTime := none }) (abandon r l)
      if isBlower r ∧ st = .absent then clearCapped (zoneOf r) l else l) l) := by
    refine Works.foldl (fun m r hm => ?_) _ h
    dsimp only
    split
    · exact ((hm.abandon r).onActuator _ _).withBudget _
    · exact (hm.abandon r).onActuator ..
  unfold sequencerActivates
  dsimp only
  refine Works.foldl (fun _ r hm => hm.serveKept img r) _ ?_
  split
  · exact (moved.dropAllShed _).reportAll ..
  · exact ((moved.dropAllShed _).reportAll ..).offerAfter ..

/-! ### The targets of the air source controller and of a plan pass (R55, R92) -/

protected theorem issueTargets (h : Works l) (img : Bank) : Works (issueTargets img l) := by
  unfold issueTargets
  split
  · exact ((h.targetArrival ..).targetArrival ..).targetArrival ..
  · exact h

protected theorem handZone (h : Works l) (img : Bank) (z : Fin 4) : Works (handZone img z l) := by
  unfold handZone
  dsimp only
  split
  · exact ((h.targetArrival ..).targetArrival ..).targetArrival ..
  · exact h.targetArrival ..

protected theorem handTargets (h : Works l) (img : Bank) (valve : Bool) : Works (handTargets img valve l) :=
  Works.foldl (fun _ _ hm => hm.targetArrival ..) _
    (Works.foldl (fun _ z hm => hm.handZone img z) _ (h.targetArrival ..))

end Works

end Sys2Proof.Machine


/-! What every event keeps: the blocks' forms, carried from the state in which the event finds the part to each state inside
it. -/

namespace Sys2Proof.Machine

/-! ### The forms of the blocks -/

/-- No counter of a rule is above its maximum (R29). -/
def RuleCounts.inRange (c : RuleCounts) : Prop := c.hit ≤ 65535 ∧ c.short ≤ 65535 ∧ c.na ≤ 65535

/-- The classifier's counters are in range. -/
def Classifier.Counted (c : Classifier) : Prop := c.unclaimed ≤ 65535 ∧ ∀ n, (c.counts.get n).inRange

/-- Every slot is in form. -/
def SlotsForm (v : Vector Slot 32) : Prop := ∀ n, (v.get n).inForm = true

/-- The directory is in form, with the kinds that its series have read. -/
def Link.Form (k : Link) : Prop :=
  (∀ n ∈ k.directory, n.inForm = true) ∧ (k.directory.map (·.address)).Nodup ∧ (k.directory.map (·.serial)).Nodup ∧
    k.series.all Series.inForm = true ∧ k.leftOver.all Series.inForm = true

theorem all_toList_iff {α : Type} {n : Nat} (v : Vector α n) (p : α → Bool) :
    v.toList.all p = true ↔ ∀ i, p (v.get i) = true := by
  simp only [List.all_eq_true, Vector.mem_toList_iff, Vector.mem_iff_getElem, get_eq]
  constructor
  · exact fun h i => h _ ⟨i.val, i.isLt, rfl⟩
  · rintro h x ⟨i, hi, rfl⟩
    exact h ⟨i, hi⟩

theorem Classifier.inRange_iff (c : Classifier) : c.inRange = true ↔ c.Counted := by
  simp only [Classifier.inRange, Bool.and_eq_true, all_toList_iff, decide_eq_true_eq, Classifier.Counted,
    RuleCounts.inRange, and_assoc]

theorem State.countersWf_iff (s : State) : s.countersWf = true ↔
    s.live.port.inRange = true ∧ s.live.classifier.Counted ∧ SlotsForm s.live.slots := by
  simp only [State.countersWf, Bool.and_eq_true, all_toList_iff, Classifier.inRange_iff, SlotsForm, and_assoc]

theorem State.directoryWf_iff (s : State) : s.directoryWf = true ↔ s.live.link.Form := by
  simp only [State.directoryWf, Bool.and_eq_true, decide_eq_true_eq, List.all_eq_true, Link.Form, and_assoc]

/-- The forms of the blocks carried from one live part to another: where the first is in form under an image, so is the
second. -/
structure Keeps (img : Bank) (s l : Live) : Prop where
  port : s.port.inRange = true → l.port.inRange = true
  classifier : s.classifier.Counted → l.classifier.Counted
  slots : SlotsForm s.slots → SlotsForm l.slots
  targets : s.air.followsMode img = true → l.air.followsMode img = true
  works : Works s → Works l
  management : s.management.wf = true → l.management.wf = true
  directory : s.link.Form → l.link.Form

namespace Keeps

variable {img : Bank} {s l m : Live}

protected theorem refl (img : Bank) (s : Live) : Keeps img s s := ⟨id, id, id, id, id, id, id⟩

/-- One change, block by block, outside the sequencer. -/
protected theorem blocks (h : Keeps img s l) (port : l.port.inRange = true → m.port.inRange = true)
    (classifier : l.classifier.Counted → m.classifier.Counted) (slots : SlotsForm l.slots → SlotsForm m.slots)
    (targets : l.air.followsMode img = true → m.air.followsMode img = true) (sequencer : m.sequencer = l.sequencer)
    (management : l.management.wf = true → m.management.wf = true) (directory : l.link.Form → m.link.Form) :
    Keeps img s m :=
  ⟨port ∘ h.port, classifier ∘ h.classifier, slots ∘ h.slots, targets ∘ h.targets,
    fun w => (h.works w).of_sequencer sequencer, management ∘ h.management, directory ∘ h.directory⟩

/-- What happens inside the budget, the sequencer and the arbiter touches no form but that of the collections. -/
protected theorem inner (h : Keeps img s l) (outer : m.outer = l.outer) (works : Works l → Works m) : Keeps img s m := by
  have leftOver : m.link.leftOver = l.link.leftOver := (congrArg (fun x : Live => x.link.leftOver) outer :)
  refine ⟨fun w => ?_, fun w => ?_, fun w => ?_, fun w => ?_, works ∘ h.works, fun w => ?_, fun w => ?_⟩
  · simpa only [Port.inRange, outer_rxQueue outer, outer_rxDropped outer, outer_txErrors outer,
      outer_rxErrors outer] using h.port w
  · exact outer_classifier outer ▸ h.classifier w
  · exact outer_slots outer ▸ h.slots w
  · exact outer_air outer ▸ h.targets w
  · exact outer_management outer ▸ h.management w
  · simpa only [Link.Form, outer_directory outer, outer_series outer, leftOver] using h.directory w

protected theorem foldl {α : Type} {f : Live → α → Live} (hf : ∀ m a, Keeps img s m → Keeps img s (f m a)) (xs : List α)
    (h : Keeps img s l) : Keeps img s (xs.foldl f l) := by
  induction xs generalizing l with
  | nil => exact h
  | cons x rest ih => exact ih (hf l x h)

/-! ### What happens inside the budget, the sequencer and the arbiter -/

protected theorem latch (h : Keeps img s l) (k : Kind) (n : Nat) : Keeps img s (latch k n l) :=
  h.inner (by simp) (·.latch ..)

protected theorem placeFrame (h : Keeps img s l) (i : Fin 7) (f : TxFrame) : Keeps img s (placeFrame i f l) :=
  h.inner rfl (·.of_sequencer rfl)

protected theorem reply (h : Keeps img s l) (c : Byte) (r : Nat) (d : List Byte) : Keeps img s (reply c r d l) :=
  h.inner rfl (·.of_sequencer rfl)

protected theorem placeStatusE (h : Keeps img s l) : Keeps img s (placeStatusE l) := h.inner rfl (·.of_sequencer rfl)

protected theorem arbitrate (h : Keeps img s l) : Keeps img s (arbitrate l) :=
  h.inner (by simp) (·.of_sequencer (by simp))

protected theorem placeRequest (h : Keeps img s l) (o : LinkOwner) (a : Nat) (c : LinkCommand) (k : LinkClass) :
    Keeps img s (placeRequest o a c k l) :=
  h.inner (by simp) (·.placeRequest ..)

protected theorem withdraw (h : Keeps img s l) (p : LinkRequest → Bool) : Keeps img s (withdraw p l) :=
  h.inner rfl (·.of_sequencer rfl)

protected theorem placeProbe (h : Keeps img s l) (a : Nat) : Keeps img s (placeProbe a l) := by
  unfold Machine.placeProbe
  split
  · exact h
  · exact h.placeRequest ..

protected theorem placeProbes (h : Keeps img s l) (st : NodeState) : Keeps img s (placeProbes st l) :=
  Keeps.foldl (fun _ a hm => hm.placeProbe a) _ h

protected theorem issueTargets (h : Keeps img s l) (i : Bank) : Keeps img s (issueTargets i l) :=
  h.inner (by simp) (·.issueTargets i)

protected theorem testShed (h : Keeps img s l) (i : Bank) : Keeps img s (testShed i l) :=
  h.inner (by simp) (·.testShed i)

protected theorem roomNotice (h : Keeps img s l) (i : Bank) : Keeps img s (roomNotice i l) :=
  h.inner (by simp) (·.roomNotice i)

protected theorem nodeGone (h : Keeps img s l) (i : Bank) (n : Nat) : Keeps img s (nodeGone i n l) :=
  h.inner (by simp) (·.nodeGone i n)

protected theorem nodeBound (h : Keeps img s l) (i : Bank) (n : Nat) : Keeps img s (nodeBound i n l) :=
  h.inner (by simp) (·.nodeBound i n)

/-! ### The air source controller (chapter 4) -/

/-- A change of the controller that keeps or sets its targets. -/
protected theorem withAir (h : Keeps img s l) {a : Air}
    (targets : l.air.followsMode img = true → a.followsMode img = true) : Keeps img s { l with air := a } :=
  h.blocks id id id targets rfl id id

theorem withTargets_followsMode (i : Bank) (a : Air) : (a.withTargets i).followsMode i = true := by
  simp [Air.followsMode, Air.withTargets]

protected theorem formIndex (h : Keeps img s l) (i : Bank) : Keeps img s (formIndex i l) := by
  unfold Machine.formIndex
  dsimp only
  split
  · exact (h.withAir (by exact id)).latch ..
  · exact h.withAir id

protected theorem reworkFraction (h : Keeps img s l) : Keeps img s (reworkFraction img l) := by
  unfold Machine.reworkFraction
  dsimp only
  repeat' split
  · exact h
  · exact (h.withAir fun _ => withTargets_followsMode ..).issueTargets img
  · exact h

protected theorem latchRisen (h : Keeps img s l) (a : Air) (p : Presented) : Keeps img s (latchRisen a p l) := by
  have one (m : Live) (hm : Keeps img s m) (c : Bool) (k : Kind) (n : Nat) :
      Keeps img s (if c then latch k n m else m) := by
    split
    · exact hm.latch ..
    · exact hm
  exact one _ (one _ h ..) ..

protected theorem enterMode (h : Keeps img s l) (mode : Mode) (r : Option Reason) : Keeps img s (enterMode img mode r l) := by
  have entered : ∀ now out entry haze, (l.air.entered img now out entry haze mode r).followsMode img = true :=
    fun _ _ _ _ => withTargets_followsMode img _
  exact (((h.withAir fun _ => entered ..).latch ..).latchRisen ..).issueTargets img

protected theorem changeReason (h : Keeps img s l) (r : Reason) : Keeps img s (changeReason r l) :=
  (h.withAir (by exact id)).latch ..

protected theorem testsClosedHaze (h : Keeps img s l) (t : Trigger) : Keeps img s (testsClosedHaze img t l) := by
  unfold Machine.testsClosedHaze
  repeat' split
  · exact h.changeReason _
  · exact h.enterMode ..
  · exact h

protected theorem testsClosedManual (h : Keeps img s l) : Keeps img s (testsClosedManual img l) := by
  unfold Machine.testsClosedManual
  repeat' split
  · exact h.changeReason _
  · exact h
  all_goals exact h.enterMode ..

protected theorem testsFresh (h : Keeps img s l) (t : Trigger) : Keeps img s (testsFresh img t l) := by
  unfold Machine.testsFresh
  repeat' split
  iterate 4 exact h.enterMode ..
  exact h

protected theorem testsShield (h : Keeps img s l) (t : Trigger) : Keeps img s (testsShield img t l) := by
  unfold Machine.testsShield
  repeat' split
  · exact h.enterMode ..
  · exact h.enterMode ..
  · exact h.changeReason _
  · exact h.enterMode ..
  · exact h.enterMode ..
  · exact h

protected theorem testsPurge (h : Keeps img s l) (t : Trigger) : Keeps img s (testsPurge img t l) := by
  unfold Machine.testsPurge
  dsimp only
  repeat' split
  iterate 5 exact h.enterMode ..
  · exact h.withAir id
  · exact h.enterMode ..
  · exact (h.enterMode ..).latch ..
  · exact h

protected theorem applyTests (h : Keeps img s l) (t : Trigger) : Keeps img s (applyTests img t l) := by
  unfold Machine.applyTests
  repeat' split
  · exact h.testsFresh t
  · exact h.testsShield t
  · exact h.testsClosedHaze t
  · exact h.testsClosedManual
  · exact h
  · exact h.testsPurge t

protected theorem takeTransition (h : Keeps img s l) (t : Trigger) : Keeps img s (takeTransition img t l) := by
  unfold Machine.takeTransition
  repeat' split
  iterate 4 exact h.enterMode ..
  · exact h.testsClosedHaze _
  · exact h

protected theorem settleTimers (h : Keeps img s l) (n : Nat) : Keeps img s (settleTimers img n l) := by
  induction n generalizing l with
  | zero => exact h.withAir id
  | succ n ih =>
    unfold Machine.settleTimers
    split
    · exact ih (h.takeTransition _)
    · exact h.withAir id

/-- An evaluation of the mode machine (R57). -/
protected theorem evaluate (h : Keeps img s l) (t : Trigger) : Keeps img s (evaluate img t l) :=
  (h.applyTests t).settleTimers _

protected theorem entryNotice (h : Keeps img s l) : Keeps img s (entryNotice img l) := by
  refine h.withAir ?_
  unfold boostAtNotice
  repeat' split
  all_goals exact id

protected theorem pressureNotice (h : Keeps img s l) : Keeps img s (pressureNotice img l) := by
  unfold Machine.pressureNotice
  dsimp only
  split
  · exact h.withAir id
  · exact h

protected theorem testDefog (h : Keeps img s l) : Keeps img s (testDefog img l) :=
  (h.withAir (by exact id)).latchRisen ..

protected theorem testIngress (h : Keeps img s l) : Keeps img s (testIngress img l) :=
  (h.withAir (by exact id)).latchRisen ..

protected theorem defrostReport (h : Keeps img s l) (b : Bool) : Keeps img s (defrostReport img b l) :=
  (Keeps.testDefog (h.withAir (by exact id))).reworkFraction

protected theorem boostTailExpires (h : Keeps img s l) : Keeps img s (boostTailExpires l) := h.withAir id

/-! ### The zone planner (chapter 5) -/

protected theorem withPlanner (h : Keeps img s l) (p : Planner) : Keeps img s { l with planner := p } :=
  h.blocks id id id id rfl id id

protected theorem putZone (h : Keeps img s l) (z : Fin 4) (n : Zone) : Keeps img s (putZone z n l) := by
  unfold Machine.putZone
  dsimp only
  split
  · exact (h.withPlanner _).latch ..
  · exact h.withPlanner _

protected theorem planZones (h : Keeps img s l) (i : Bank) (snap : Live) (c : PassContext) (zs : List (Fin 4)) :
    Keeps img s (planZones i snap c zs l).1 := by
  induction zs generalizing l with
  | nil => exact h
  | cons z rest ih =>
    unfold Machine.planZones
    split
    · exact ih (h.putZone z _)
    · exact ih (h.putZone z _)

protected theorem computePass (h : Keeps img s l) (i : Bank) : Keeps img s (computePass i l) := by
  unfold Machine.computePass
  dsimp only
  exact ((h.withPlanner _).planZones ..).withPlanner _

/-- A plan pass (R74). -/
protected theorem planPass (h : Keeps img s l) : Keeps img s (planPass img l) := by
  have handed : Keeps img s (handTargets img (valveOpen img l) (computePass img l)) :=
    (h.computePass img).inner (by simp) (·.handTargets ..)
  unfold Machine.planPass
  dsimp only
  split
  · exact handed.withPlanner _
  · exact (handed.defrostReport _).withPlanner _

/-! ### The entry to RUN and the ignition (R181, R184) -/

protected theorem withPart (h : Keeps img s l) (p : Part) : Keeps img s { l with part := p } :=
  h.blocks id id id id rfl id id

protected theorem startRun (h : Keeps img s l) (i : Bank) : Keeps img s (startRun i l) := by
  unfold Machine.startRun testIgnition startIgnitionTimer
  dsimp only
  split
  · exact h.blocks id id id id rfl id id
  · exact h.blocks id id id id rfl id id

protected theorem enterRun (h : Keeps img s l) (i : Bank) : Keeps img s (enterRun i l) := (h.startRun i).issueTargets i

protected theorem ignitionNotice (h : Keeps img s l) (i : Bank) : Keeps img s (ignitionNotice i l) := by
  unfold Machine.ignitionNotice ignitionInRun startIgnitionTimer
  repeat' split
  · exact h.withPart _
  · exact h
  · exact h.withPart _
  · exact h.enterRun i
  · exact h
  · exact h

/-! ### Notices (R37) -/

protected theorem batteryNotice (h : Keeps img s l) (i : Bank) : Keeps img s (batteryNotice i l) := by
  have avail : Keeps img s (workOutAvail i l) := h.blocks id id id id rfl id id
  unfold Machine.batteryNotice
  dsimp only
  repeat' split
  · exact avail
  · exact (avail.roomNotice i).testShed i
  · exact avail.testShed i

/-- A slot notice (R37). -/
protected theorem notify (h : Keeps img s l) (n : Fin 32) : Keeps img s (notify img n l) := by
  unfold Machine.notify hazeNotice recircNotice cabHazeNotice
  repeat' split
  · exact h.reworkFraction
  · exact h.batteryNotice img
  · exact h.ignitionNotice img
  · exact (h.formIndex img).evaluate _
  · exact h.entryNotice
  · exact h.evaluate _
  · exact h.pressureNotice
  · exact h.testIngress.evaluate _
  · exact h

protected theorem notifyUnlessForced (h : Keeps img s l) (n : Fin 32) : Keeps img s (notifyUnlessForced img n l) := by
  unfold Machine.notifyUnlessForced
  split
  · exact h
  · exact h.notify n

end Keeps

end Sys2Proof.Machine


/-! What every event keeps, at the cab link, the part state, the slots, the classifier and the table images. -/

namespace Sys2Proof.Machine

/-! ### The directory (R143, R146, R147) -/

/-- A change of entries that keeps their serials and addresses. -/
theorem Link.Form.mapped {k : Link} (h : k.Form) {f : Node → Node} (address : ∀ n, (f n).address = n.address)
    (serial : ∀ n, (f n).serial = n.serial) (form : ∀ n, n.inForm = true → (f n).inForm = true) :
    Link.Form { k with directory := k.directory.map f } := by
  obtain ⟨nodes, addresses, serials, series, leftOver⟩ := h
  refine ⟨?_, ?_, ?_, series, leftOver⟩
  · simpa only [List.forall_mem_map] using fun n hn => form n (nodes n hn)
  · simpa only [List.map_map, Function.comp_def, address] using addresses
  · simpa only [List.map_map, Function.comp_def, serial] using serials

/-- The entry at an address changed, its serial and address kept. -/
theorem Link.Form.onNode {k : Link} (h : k.Form) (a : Nat) {f : Node → Node} (address : ∀ n, (f n).address = n.address)
    (serial : ∀ n, (f n).serial = n.serial) (form : ∀ n, n.inForm = true → (f n).inForm = true) :
    Link.Form (k.onNode a f) := by
  refine h.mapped (fun n => ?_) (fun n => ?_) (fun n hn => ?_) <;> split
  · exact address n
  · rfl
  · exact serial n
  · rfl
  · exact form n hn
  · exact hn

theorem Node.inForm_iff (n : Node) : n.inForm = true ↔ n.serial ≠ 0 ∧ n.serial ≠ 0xFFFFFFFF ∧ 1 ≤ n.address ∧
    n.address ≤ 16 ∧ n.kind ≤ 255 ∧ n.consecutive ≤ 3 ∧ n.total ≤ 255 := by
  simp only [Node.inForm, Bool.and_eq_true, decide_eq_true_eq, and_assoc]

theorem countUp_le {n max : Nat} (h : n ≤ max) : countUp n max ≤ max := by
  unfold countUp
  split <;> omega

theorem Node.failed_inForm {n : Node} (h : n.inForm = true) : n.failed.inForm = true := by
  obtain ⟨s0, s1, a0, a1, kind, consecutive, total⟩ := n.inForm_iff.mp h
  exact (Node.inForm_iff _).mpr ⟨s0, s1, a0, a1, kind, countUp_le consecutive, countUp_le total⟩

theorem Node.found_inForm {n : Node} (st : NodeState) {c : Nat} (hc : c ≤ 3) (h : n.inForm = true) :
    Node.inForm { n with state := st, consecutive := c } = true := by
  obtain ⟨s0, s1, a0, a1, kind, -, total⟩ := n.inForm_iff.mp h
  exact (Node.inForm_iff _).mpr ⟨s0, s1, a0, a1, kind, hc, total⟩

/-- A new entry whose serial and address the directory does not hold (R143, R146). -/
theorem Link.Form.entered {k : Link} (h : k.Form) {entry : Node} (unknown : k.nodeOf entry.serial = none)
    (fits : entryFits k entry.serial entry.address = true) (kind : entry.kind ≤ 255) (consecutive : entry.consecutive = 0)
    (total : entry.total = 0) : Link.Form { k with directory := k.directory ++ [entry] } := by
  obtain ⟨nodes, addresses, serials, series, leftOver⟩ := h
  simp only [entryFits, Bool.and_eq_true, decide_eq_true_eq, Option.isNone_iff_eq_none] at fits
  obtain ⟨⟨⟨⟨s0, s1⟩, a0⟩, a1⟩, free⟩ := fits
  have form : entry.inForm = true := entry.inForm_iff.mpr ⟨s0, s1, a0, a1, kind, by omega, by omega⟩
  simp only [Link.nodeOf, List.find?_eq_none, beq_iff_eq] at unknown
  simp only [Link.nodeAt, List.find?_eq_none, beq_iff_eq] at free
  refine ⟨?_, ?_, ?_, series, leftOver⟩
  · simp only [List.mem_append, List.mem_singleton]
    rintro n (hn | rfl)
    · exact nodes n hn
    · exact form
  · simpa [List.nodup_append, addresses] using fun n hn => free n hn
  · simpa [List.nodup_append, serials] using fun n hn => unknown n hn

theorem winnerKind_le {s : Option Series} (h : s.all Series.inForm = true) : winnerKind s ≤ 255 := by
  unfold winnerKind
  split
  · simpa [Series.inForm] using h
  · exact Nat.zero_le _

namespace Keeps

variable {img : Bank} {s l m : Live}

/-! ### The cab link (chapter 8) -/

/-- A change of the link that keeps its directory's form. -/
protected theorem onLinkBlock (h : Keeps img s l) {f : Link → Link} (form : l.link.Form → (f l.link).Form) :
    Keeps img s (l.onLinkBlock f) :=
  h.blocks id id id id rfl id form

/-- The entry at an address changed, its serial and address kept. -/
protected theorem onNode (h : Keeps img s l) (a : Nat) {f : Node → Node} (address : ∀ n, (f n).address = n.address)
    (serial : ∀ n, (f n).serial = n.serial) (form : l.link.Form → ∀ n, n.inForm = true → (f n).inForm = true) :
    Keeps img s (l.onLinkBlock (Link.onNode a f)) :=
  h.onLinkBlock fun k => k.onNode a address serial (form k)

protected theorem onManagement (h : Keeps img s l) {f : Management → Management}
    (form : l.management.wf = true → (f l.management).wf = true) : Keeps img s (onManagement f l) :=
  h.blocks id id id id rfl form id

protected theorem finishAccess (h : Keeps img s l) (r : Nat) : Keeps img s (finishAccess r l) := by
  have free : Keeps img s { l with management := { l.management with inProgress := none } } :=
    h.blocks id id id id rfl id id
  unfold Machine.finishAccess
  split
  · exact free.reply ..
  · exact free.reply ..
  · exact h

protected theorem cancelAccess (h : Keeps img s l) (r : Nat) : Keeps img s (cancelAccess r l) := by
  unfold Machine.cancelAccess
  split
  · exact (h.withdraw _).finishAccess r
  · exact h

protected theorem windowEnds (h : Keeps img s l) (e : Ending) : Keeps img s (windowEnds e l) := by
  unfold Machine.windowEnds
  split
  · exact h.finishAccess _
  · exact (h.onLinkBlock (by exact id)).finishAccess _
  · exact h.finishAccess _
  · exact h.finishAccess _

protected theorem loseNode (h : Keeps img s l) (i : Bank) (n : Node) : Keeps img s (loseNode i n l) := by
  have lost : Keeps img s (latch kNodeLost n.address
      (l.onLinkBlock (Link.onNode n.address fun m => { m with state := .lost }))) :=
    (h.onNode _ (fun _ => by rfl) (fun _ => by rfl) fun _ _ => by exact id).latch ..
  unfold Machine.loseNode
  dsimp only
  split <;> split
  · exact (lost.nodeGone ..).cancelAccess _
  · exact lost.nodeGone ..
  · exact lost.cancelAccess _
  · exact lost

protected theorem countOutcome (h : Keeps img s l) (i : Bank) (a : Nat) (b : Bool) :
    Keeps img s (countOutcome i a b l) := by
  have failed : Keeps img s (l.onLinkBlock (Link.onNode a Node.failed)) :=
    h.onNode _ (fun _ => by rfl) (fun _ => by rfl) fun _ _ => Node.failed_inForm
  unfold Machine.countOutcome
  dsimp only
  repeat' split
  · exact h
  · exact h.onNode _ (fun _ => by rfl) (fun _ => by rfl) fun _ _ => by exact Node.found_inForm _ (by decide)
  · exact failed.loseNode ..
  · exact failed
  · exact h

protected theorem findNode (h : Keeps img s l) (i : Bank) (n : Node) : Keeps img s (findNode i n l) := by
  have found : Keeps img s (latch kNodeFound n.address (l.onLinkBlock (Link.onNode n.address fun m =>
      { m with state := knownState i n.serial, consecutive := 0 }))) :=
    (h.onNode _ (fun _ => by rfl) (fun _ => by rfl) fun _ _ => by exact Node.found_inForm _ (by decide)).latch ..
  unfold Machine.findNode
  dsimp only
  split
  · exact found.nodeBound ..
  · exact found

protected theorem probeEnds (h : Keeps img s l) (i : Bank) (a : Nat) (b : Bool) : Keeps img s (probeEnds i a b l) := by
  unfold Machine.probeEnds
  repeat' split
  · exact h.findNode ..
  · exact h
  · exact h

/-- A BIND is accepted with a kind of one byte (R143). -/
protected theorem bindAccepted (h : Keeps img s l) (i : Bank) (serial a : Nat) {kind : Nat}
    (one_byte : l.link.Form → kind ≤ 255) : Keeps img s (bindAccepted i serial a kind l) := by
  have silenced (m : Live) (hm : Keeps img s m) (n : Node) : Keeps img s (removeProbe n.address m) := hm.withdraw _
  have renewed (n : Node) : Keeps img s (l.onLinkBlock (Link.onNode n.address fun m => { m with kind := kind })) := by
    refine h.onNode _ (fun _ => by rfl) (fun _ => by rfl) fun k x hx => ?_
    obtain ⟨s0, s1, a0, a1, -, counts⟩ := x.inForm_iff.mp hx
    exact (Node.inForm_iff _).mpr ⟨s0, s1, a0, a1, one_byte k, counts⟩
  have cleared (n : Node) (m : Live) (hm : Keeps img s m) :
      Keeps img s (m.onLinkBlock (Link.onNode n.address fun m => { m with consecutive := 0 })) :=
    hm.onNode _ (fun _ => by rfl) (fun _ => by rfl) fun _ _ => by exact Node.found_inForm _ (by decide)
  have found (m : Live) (hm : Keeps img s m) :
      Keeps img s (if m.part.state = .run then latch kNodeFound a m else m) := by
    split
    · exact hm.latch ..
    · exact hm
  unfold Machine.bindAccepted
  split
  case h_1 unknown =>
    split
    case isTrue fits =>
      have entered := h.onLinkBlock (f := fun k => { k with directory := k.directory ++
        [{ serial := serial, address := a, kind := kind, state := knownState i serial, consecutive := 0, total := 0 }] })
        fun k => k.entered unknown fits (one_byte k) rfl rfl
      dsimp only
      split
      · exact (found _ entered).nodeBound ..
      · exact found _ entered
    case isFalse => exact h
  case h_2 n _ =>
    dsimp only
    split
    · exact (silenced _ (renewed n) n).findNode ..
    · exact (((silenced _ (cleared n _ (renewed n)) n).latch ..).nodeGone ..).nodeBound ..
    · exact (silenced _ (cleared n _ (renewed n)) n).latch ..
    · exact renewed n

protected theorem requestRound (h : Keeps img s l) (b : Bool) : Keeps img s (requestRound b l) := h.placeRequest ..

protected theorem startSeries (h : Keeps img s l) : Keeps img s (startSeries l) := by
  unfold Machine.startSeries
  split
  · exact h
  · refine (h.onLinkBlock fun ⟨nodes, addresses, serials, _, leftOver⟩ => ?_).requestRound _
    exact ⟨nodes, addresses, serials, rfl, leftOver⟩

protected theorem breakSeries (h : Keeps img s l) : Keeps img s (breakSeries l) :=
  h.onLinkBlock fun ⟨nodes, addresses, serials, _, leftOver⟩ => ⟨nodes, addresses, serials, rfl, leftOver⟩

protected theorem endSeries (h : Keeps img s l) (i : Bank) : Keeps img s (endSeries i l) := by
  unfold Machine.endSeries
  dsimp only
  split
  · exact h.breakSeries.enterRun i
  · exact h.breakSeries

protected theorem requestBind (h : Keeps img s l) (serial : Nat) {kind : Nat} (one_byte : kind ≤ 255) (a : Nat) :
    Keeps img s (requestBind serial kind a l) := by
  refine Keeps.placeRequest (h.onLinkBlock fun ⟨nodes, addresses, serials, series, leftOver⟩ => ?_) ..
  refine ⟨nodes, addresses, serials, ?_, leftOver⟩
  cases l.link.series <;> simp [Series.inForm, one_byte]

protected theorem roundWon (h : Keeps img s l) (i : Bank) (serial : Nat) {kind : Nat} (one_byte : kind ≤ 255) :
    Keeps img s (roundWon i serial kind l) := by
  unfold Machine.roundWon
  repeat' split
  · exact h.requestBind _ one_byte _
  · exact (h.latch ..).endSeries i
  · exact h.requestBind _ one_byte _
  · exact h

protected theorem roundEnds (h : Keeps img s l) (i : Bank) (serial : Nat) {kind : Nat} (one_byte : kind ≤ 255) :
    Keeps img s (roundEnds i serial kind l) := by
  unfold Machine.roundEnds
  repeat' split
  · exact h.endSeries i
  · exact h.endSeries i
  · exact h.roundWon i _ one_byte
  · exact h.breakSeries

protected theorem nextRound (h : Keeps img s l) : Keeps img s (nextRound l) := by
  unfold Machine.nextRound
  split
  · exact h.requestRound _
  · exact h.breakSeries

protected theorem bindFailed (h : Keeps img s l) (i : Bank) (serial : Nat) : Keeps img s (bindFailed i serial l) := by
  unfold Machine.bindFailed
  split
  · exact h
  · rename_i old running
    split
    · exact h.endSeries i
    · refine (h.onLinkBlock fun ⟨nodes, addresses, serials, series, leftOver⟩ => ?_).nextRound
      rw [running] at series
      exact ⟨nodes, addresses, serials, series, leftOver⟩

protected theorem dropLeftOver (h : Keeps img s l) : Keeps img s (dropLeftOver l) :=
  h.onLinkBlock fun ⟨nodes, addresses, serials, series, _⟩ => ⟨nodes, addresses, serials, series, rfl⟩

protected theorem bindEnds (h : Keeps img s l) (i : Bank) (serial a : Nat) (b : Bool) :
    Keeps img s (bindEnds i serial a b l) := by
  unfold Machine.bindEnds
  repeat' split
  · exact (h.bindAccepted i serial a fun ⟨_, _, _, _, leftOver⟩ => winnerKind_le leftOver).dropLeftOver
  · exact h.dropLeftOver
  · exact (h.bindAccepted i serial a fun ⟨_, _, _, series, _⟩ => winnerKind_le series).nextRound
  · exact h.bindFailed ..

protected theorem roundOver (h : Keeps img s l) (i : Bank) (serial : Nat) {kind : Nat} (one_byte : kind ≤ 255) :
    Keeps img s (roundOver i serial kind l) := by
  unfold Machine.roundOver
  split
  · exact h.dropLeftOver
  · exact h.roundEnds i _ one_byte

protected theorem afterProbes (h : Keeps img s l) : Keeps img s (afterProbes l) := by
  unfold Machine.afterProbes
  split
  · exact (h.onLinkBlock (by exact id)).startSeries
  · exact h

protected theorem beginProbes (h : Keeps img s l) : Keeps img s (beginProbes l) :=
  (Keeps.placeProbes (h.onLinkBlock (by exact id)) .bound).afterProbes

protected theorem linkRestored (h : Keeps img s l) : Keeps img s (linkRestored l) := by
  unfold Machine.linkRestored
  repeat' split
  · exact h.startSeries
  · exact h.beginProbes
  · exact h.startSeries
  · exact h
  · exact h

protected theorem deliverOutcome (h : Keeps img s l) (i : Bank) (r : LinkRequest) (e : Ending) :
    Keeps img s (deliverOutcome i r e l) := by
  unfold Machine.deliverOutcome
  split
  · exact h.inner (by simp) (·.deliverToItem ..)
  · exact h.windowEnds e
  · exact h.probeEnds ..
  · exact h.bindEnds ..
  · exact h

protected theorem freeLink (h : Keeps img s l) : Keeps img s (freeLink l) :=
  (Keeps.arbitrate (h.onLinkBlock (by exact id))).afterProbes

protected theorem endTransaction (h : Keeps img s l) (i : Bank) (r : LinkRequest) (e : Ending) :
    Keeps img s (endTransaction i r e l) := by
  unfold Machine.endTransaction countTransaction
  split
  · exact (h.deliverOutcome ..).freeLink
  · exact ((h.countOutcome ..).deliverOutcome ..).freeLink

protected theorem takeReply (h : Keeps img s l) (i : Bank) (p : LinkRequest → Bool) (a : LinkReply) :
    Keeps img s (takeReply i p a l) := by
  unfold Machine.takeReply
  repeat' split
  · exact h.endTransaction ..
  · exact h
  · exact h

protected theorem requestSent (h : Keeps img s l) : Keeps img s (requestSent l) := by
  unfold Machine.requestSent
  split
  · split
    · exact h
    · exact h.onLinkBlock (by exact id)
  · exact h

protected theorem windowPasses (h : Keeps img s l) (i : Bank) : Keeps img s (windowPasses i l) := by
  unfold Machine.windowPasses
  split
  · exact h.endTransaction ..
  · exact h

protected theorem roundRead (h : Keeps img s l) (i : Bank) (serial : Nat) {kind : Nat} (one_byte : kind ≤ 255) :
    Keeps img s (roundRead i serial kind l) := by
  unfold Machine.roundRead
  repeat' split
  · exact (h.roundOver i _ one_byte).freeLink
  · exact h
  · exact h

protected theorem lineIsStuck (h : Keeps img s l) (i : Bank) : Keeps img s (lineIsStuck i l) := by
  have stuck (m : Live) (hm : Keeps img s m) : Keeps img s (stuckTransaction i m) := by
    unfold stuckTransaction breakRound
    repeat' split
    · exact hm
    · exact hm.dropLeftOver.freeLink
    · exact hm.breakSeries.freeLink
    · exact hm.endTransaction ..
  unfold Machine.lineIsStuck
  split
  · exact stuck _ (h.onLinkBlock id)
  · exact h

protected theorem linkFails (h : Keeps img s l) (i : Bank) : Keeps img s (linkFails i l) := by
  have lost : Keeps img s
      (l.onLinkBlock fun k => { loseAll k with state := .failed, retryTimer := some (l.now + failedRetry) }) := by
    refine h.onLinkBlock fun k => k.mapped (fun n => ?_) (fun n => ?_) (fun n hn => ?_) <;> split <;> first | rfl | exact hn
  have gone : Keeps img s (linkGone i (latch kLinkFailed (reachableNodes l.link)
      (l.onLinkBlock fun k => { loseAll k with state := .failed, retryTimer := some (l.now + failedRetry) }))) :=
    (lost.latch ..).inner (by simp) (·.linkGone i)
  have ended := ((gone.cancelAccess rLinkDown).withdraw fun q => isProbe q || isRollcall q).breakSeries
  unfold Machine.linkFails
  dsimp only
  split
  · exact ended.enterRun i
  · exact ended

protected theorem attemptEnds (h : Keeps img s l) (i : Bank) (b : Bool) : Keeps img s (attemptEnds i b l) := by
  unfold Machine.attemptEnds recoveringAttempt failedAttempt
  dsimp only
  repeat' split
  · exact (((Keeps.onLinkBlock (h.onLinkBlock (by exact id)) (by exact id)).latch ..).arbitrate).linkRestored
  · exact Keeps.onLinkBlock (h.onLinkBlock (by exact id)) (by exact id)
  · exact Keeps.linkFails (h.onLinkBlock (by exact id)) i
  · exact ((Keeps.onLinkBlock (h.onLinkBlock (by exact id)) (by exact id)).arbitrate.placeProbes _).startSeries
  · exact (Keeps.onLinkBlock (h.onLinkBlock (by exact id)) (by exact id)).arbitrate.linkRestored
  · exact h.onLinkBlock (by exact id)
  · exact h
  · exact h

protected theorem excludeEntry (h : Keeps img s l) (i : Bank) (n : Node) : Keeps img s (excludeEntry i n l) := by
  have excluded : Keeps img s (removeProbe n.address
      (l.onLinkBlock (Link.onNode n.address fun m => { m with state := .excluded }))) :=
    (h.onNode _ (fun _ => by rfl) (fun _ => by rfl) fun _ _ => by exact id).withdraw _
  unfold Machine.excludeEntry
  dsimp only
  split
  · exact (excluded.nodeGone ..).afterProbes
  · exact excluded.afterProbes

protected theorem admitEntry (h : Keeps img s l) (n : Node) : Keeps img s (admitEntry n l) := by
  unfold Machine.admitEntry
  split
  · exact h.onNode _ (fun _ => by rfl) (fun _ => by rfl) fun _ _ => by exact Node.found_inForm _ (by decide)
  · exact h

/-! ### The part state (chapter 11) -/

protected theorem enterSettling (h : Keeps img s l) (i : Bank) : Keeps img s (enterSettling i l) := by
  have parted : Keeps img s { l with
      part := { l.part with state := .settling, ignitionTimer := none, ignitionOff := false, settleRequest := false }
      planner := { l.planner with timer := none } } := h.blocks id id id id rfl id id
  have link (m : Live) (hm : Keeps img s m) : Keeps img s (linkSettles m) := by
    have silenced := (Keeps.withdraw (hm.onLinkBlock
      (f := fun k => { k with rollcallTimer := none, probeTimer := none }) id) isProbe).withdraw isRound
    unfold linkSettles
    dsimp only
    split
    · exact silenced
    · exact silenced.breakSeries
  exact (link _ parted).inner (outer_sequencerSettles ..) (·.sequencerSettles i)

protected theorem askSettle (h : Keeps img s l) (i : Bank) : Keeps img s (askSettle i l) := by
  unfold Machine.askSettle
  split
  · exact h.withPart _
  · exact h.enterSettling i

protected theorem linkParks (h : Keeps img s l) : Keeps img s (linkParks l) := by
  have last (m : Live) (hm : Keeps img s m) (f : Link → Link)
      (hf : f m.link = { m.link with leftOver := if m.link.onLink.any isRollcall then m.link.series else none, series := none }) :
      Keeps img s (m.onLinkBlock f) := by
    refine hm.onLinkBlock fun ⟨nodes, addresses, serials, series, _⟩ => hf ▸ ⟨nodes, addresses, serials, rfl, ?_⟩
    dsimp only
    split
    · exact series
    · rfl
  unfold Machine.linkParks
  dsimp only
  split
  · exact last _ (Keeps.onLinkBlock ((h.cancelAccess _).withdraw _) (by exact id)) _ rfl
  · exact last _ (Keeps.onLinkBlock (h.withdraw _) (by exact id)) _ rfl

theorem inRange_emptied {p : Port} (h : p.inRange = true) : Port.inRange { p with rxQueue := [] } = true := by
  simp only [Port.inRange, Bool.and_eq_true] at h ⊢
  exact ⟨⟨⟨rfl, h.1.1.2⟩, h.1.2⟩, h.2⟩

protected theorem enterWatch (h : Keeps img s l) : Keeps img s (enterWatch l) := by
  have emptied : Keeps img s { l with
      part := { l.part with state := .watch }
      port := { l.port with rxQueue := [] }
      classifier := l.classifier.parks
      planner := plannerParks l.planner
      events := { l.events with statusTimer := none } } := h.blocks inRange_emptied id id id rfl id id
  exact (emptied.inner (outer_sequencerParks _) (·.sequencerParks)).linkParks

protected theorem settleCheck (h : Keeps img s l) : Keeps img s (settleCheck l) := by
  unfold Machine.settleCheck
  split
  · exact h.enterWatch
  · exact h

protected theorem linkWakes (h : Keeps img s l) : Keeps img s (linkWakes l) := by
  unfold Machine.linkWakes
  split
  · exact h.beginProbes
  · exact h.onLinkBlock (by exact id)
  · exact h.onLinkBlock (by exact id)

protected theorem enterWaking (h : Keeps img s l) (i : Bank) : Keeps img s (enterWaking i l) := by
  have woken : Keeps img s { l with
      part := { l.part with state := .waking }
      classifier := l.classifier.wakes
      events := { l.events with statusTimer := some (l.now + statusPeriod i) } } := h.blocks id id id id rfl id id
  unfold Machine.enterWaking
  dsimp only
  split
  · exact woken.placeStatusE.linkWakes
  · exact woken.linkWakes

protected theorem wakeCheck (h : Keeps img s l) (i : Bank) : Keeps img s (wakeCheck i l) := by
  unfold Machine.wakeCheck
  split
  · exact h.enterRun i
  · exact h

end Keeps

end Sys2Proof.Machine


/-! What every event keeps, at the slots, the classifier, the table images and the start; and the invariants of every
step. -/

namespace Sys2Proof.Machine

/-! ### Forms of single records -/

theorem Slot.inForm_iff (s : Slot) :
    s.inForm = true ↔ s.clampCount ≤ 255 ∧ s.outranked ≤ 255 ∧ (s.since = none ↔ s.belief = .never) := by
  simp only [Slot.inForm, Bool.and_eq_true, decide_eq_true_eq, and_assoc]
  cases s.since <;> simp

theorem Port.inRange_iff (p : Port) : p.inRange = true ↔
    p.rxQueue.length ≤ 16 ∧ p.rxDropped ≤ 65535 ∧ p.txErrors ≤ 256 ∧ p.rxErrors ≤ 255 := by
  simp only [Port.inRange, Bool.and_eq_true, decide_eq_true_eq, and_assoc]
  rfl

/-- The rule-range sequence holds only what section 9.4 gives it. -/
def RuleRange.Form : RuleRange → Prop
  | .idle => True
  | .first f => f ≤ 95
  | .range f l kept => f ≤ l ∧ l ≤ 95 ∧ (∀ n ∈ kept, f ≤ n ∧ n ≤ l) ∧ kept.length ≤ 8 ∧ kept.Nodup

theorem Management.wf_iff (m : Management) : m.wf = true ↔
    (∀ page off, m.pointer = some (page, off) → page ≤ 19 ∧ off ≤ 127) ∧ m.ruleRange.Form := by
  have pointer : (m.pointer.all fun p => decide (p.1 ≤ 19) && decide (p.2 ≤ 127)) = true ↔
      ∀ page off, m.pointer = some (page, off) → page ≤ 19 ∧ off ≤ 127 := by
    cases m.pointer with
    | none => simp
    | some p => exact ⟨fun ok page off hp => by cases hp; simpa using ok, fun ok => by simpa using ok p.1 p.2 rfl⟩
  simp only [Management.wf, Bool.and_eq_true, pointer]
  refine and_congr_right fun _ => ?_
  cases m.ruleRange with
  | idle => simp [RuleRange.Form]
  | first f => simp [RuleRange.Form]
  | range f l kept =>
    simp only [Bool.and_eq_true, decide_eq_true_eq, List.all_eq_true, and_assoc]
    rfl

theorem State.imagesWf_iff (s : State) : s.imagesWf = true ↔
    bankWf s.active = true ∧ bankWf s.loading = true ∧ bankWf s.store.image = true ∧ s.live.management.wf = true := by
  simp only [State.imagesWf, State.banksWf, Bool.and_eq_true, and_assoc]

theorem forall_get_updateAt {α : Type} {n : Nat} {v : Vector α n} {p : α → Prop} (h : ∀ i, p (v.get i)) (i : Fin n)
    {f : α → α} (hf : p (v.get i) → p (f (v.get i))) (j : Fin n) : p ((updateAt v i f).get j) := by
  by_cases hj : j = i
  · rw [hj, updateAt_self]
    exact hf (h i)
  · rw [updateAt_other _ _ _ _ hj]
    exact h j

namespace Keeps

variable {img : Bank} {s l m : Live}

/-! ### Slots and the classifier (chapters 2 and 3) -/

protected theorem onSlot (h : Keeps img s l) (n : Fin 32) {f : Slot → Slot}
    (form : (l.slots.get n).inForm = true → (f (l.slots.get n)).inForm = true) : Keeps img s (onSlot n f l) :=
  h.blocks id id (fun v => forall_get_updateAt (p := fun x : Slot => x.inForm = true) v n form) id rfl id id

protected theorem staleExpires (h : Keeps img s l) (n : Fin 32) (aged : (slotOf l n).belief ≠ .never) :
    Keeps img s (staleExpires img n l) := by
  refine Keeps.notifyUnlessForced (h.onSlot n fun form => ?_) n
  obtain ⟨clamps, ranks, age⟩ := (Slot.inForm_iff _).mp form
  exact (Slot.inForm_iff _).mpr ⟨clamps, ranks, by simpa [aged] using mt age.mp aged⟩

protected theorem lapseExpires (h : Keeps img s l) (n : Fin 32) (aged : (slotOf l n).belief ≠ .never) :
    Keeps img s (lapseExpires img n l) := by
  refine Keeps.notifyUnlessForced (Keeps.latch (h.onSlot n fun form => ?_) ..) n
  obtain ⟨clamps, ranks, age⟩ := (Slot.inForm_iff _).mp form
  exact (Slot.inForm_iff _).mpr ⟨clamps, ranks, by simpa [aged] using mt age.mp aged⟩

protected theorem offerSlot (h : Keeps img s l) (n : Fin 32) (value : Int) (rank : Nat) :
    Keeps img s (offerSlot img n value rank l) := by
  unfold Machine.offerSlot
  dsimp only
  repeat' split
  · exact h
  · refine Keeps.notifyUnlessForced (h.onSlot n fun form => ?_) n
    obtain ⟨clamps, ranks, -⟩ := (Slot.inForm_iff _).mp form
    refine (Slot.inForm_iff _).mpr ⟨?_, ranks, by simp [Slot.accepted]⟩
    dsimp only [Slot.accepted]
    split
    · exact countUp_le clamps
    · exact clamps
  · refine h.onSlot n fun form => ?_
    obtain ⟨clamps, ranks, age⟩ := (Slot.inForm_iff _).mp form
    exact (Slot.inForm_iff _).mpr ⟨clamps, countUp_le ranks, age⟩

protected theorem forceSlotTo (h : Keeps img s l) (n : Fin 32) (value : Int) : Keeps img s (forceSlotTo img n value l) :=
  Keeps.notify (h.onSlot n (by exact id)) n

protected theorem releaseSlotOf (h : Keeps img s l) (n : Fin 32) : Keeps img s (releaseSlotOf img n l) := by
  unfold Machine.releaseSlotOf
  split
  · exact Keeps.notify (h.onSlot n (by exact id)) n
  · exact h

protected theorem slotsActivate (h : Keeps img s l) (old : Bank) : Keeps img s (slotsActivate old img l) := by
  refine Keeps.foldl (fun m n hm => Keeps.notifyUnlessForced (hm.onSlot n fun form => ?_) n) _ h
  obtain ⟨clamps, ranks, -⟩ := (Slot.inForm_iff _).mp form
  exact (Slot.inForm_iff _).mpr ⟨clamps, ranks, by simp [Slot.returned]⟩

protected theorem withClassifier (h : Keeps img s l) {c : Classifier} (counted : l.classifier.Counted → c.Counted) :
    Keeps img s { l with classifier := c } :=
  h.blocks id counted id id rfl id id

protected theorem onCounts (h : Keeps img s l) (n : Nat) {f : RuleCounts → RuleCounts}
    (range : ∀ c, RuleCounts.inRange c → (f c).inRange) : Keeps img s (onCounts n f l) := by
  unfold Machine.onCounts
  split
  · exact h.withClassifier fun ⟨unclaimed, counts⟩ => ⟨unclaimed, forall_get_updateAt counts _ (range _)⟩
  · exact h

protected theorem countHit (h : Keeps img s l) (n : Nat) : Keeps img s (countHit n l) :=
  h.onCounts n fun _ ⟨hit, short, na⟩ => ⟨countUp_le hit, short, na⟩

protected theorem ruleTakes (h : Keeps img s l) (n : Nat) (r : Rule) (f : RxFrame) :
    Keeps img s (ruleTakes img n r f l).1 := by
  unfold Machine.ruleTakes latchRule
  dsimp only
  repeat' split
  · exact h.onCounts n fun _ ⟨hit, short, na⟩ => ⟨hit, countUp_le short, na⟩
  · exact h.countHit n
  · exact h.onCounts n fun _ ⟨hit, short, na⟩ => ⟨hit, short, countUp_le na⟩
  · exact (h.offerSlot ..).countHit n

protected theorem scanRules (h : Keeps img s l) (table : Bank) (f : RxFrame) (left n : Nat) (taken : Bool) :
    Keeps img s (scanRules img table f left n taken l) := by
  induction left generalizing n taken l with
  | zero =>
    unfold Machine.scanRules
    split
    · exact h
    · exact h.withClassifier fun ⟨unclaimed, counts⟩ => ⟨countUp_le unclaimed, counts⟩
  | succ left ih =>
    have taken_by := h.ruleTakes n (ruleAt table n) f
    unfold Machine.scanRules
    dsimp only
    repeat' split
    · exact ih (taken_by.withClassifier (by exact id)) ..
    · exact taken_by
    · exact ih h ..

protected theorem scanHead (h : Keeps img s l) : Keeps img s (scanHead img l) := by
  unfold Machine.scanHead
  split
  · exact h
  · rename_i f rest queued
    split
    · have begun : Keeps img s (startScan img f rest l) := by
        refine h.blocks (fun port => ?_) id id id rfl id id
        rw [Port.inRange_iff, queued, List.length_cons] at port
        exact (Port.inRange_iff _).mpr ⟨by dsimp only [startScan]; omega, port.2⟩
      exact (begun.scanRules ..).withClassifier (by exact id)
    · exact h

/-! ### The port, events and counters (chapters 1 and 10) -/

protected theorem withPort (h : Keeps img s l) {p : Port} (range : l.port.inRange = true → p.inRange = true) :
    Keeps img s { l with port := p } :=
  h.blocks range id id id rfl id id

protected theorem withEvents (h : Keeps img s l) (e : Events) : Keeps img s { l with events := e } :=
  h.blocks id id id id rfl id id

protected theorem advanceTo (h : Keeps img s l) (t : Nat) : Keeps img s (l.advanceTo t) :=
  h.blocks id id id id rfl id id

/-- The expiry of a timer: what follows it happens later. -/
protected theorem onExpiry (h : Keeps img s l) (t : Timer) {k : Live → Live}
    (later : ∀ e, t = some e → Keeps img s (k (l.advanceTo e))) : Keeps img s (onExpiry t k l) := by
  cases t with
  | none => exact h
  | some e => exact later e rfl

protected theorem queueFrame (h : Keeps img s l) (f : RxFrame) : Keeps img s (queueFrame f l) := by
  unfold Machine.queueFrame
  split
  · rename_i room
    refine h.withPort fun port => ?_
    have ⟨_, counts⟩ := (Port.inRange_iff _).mp port
    have fits : (l.port.rxQueue ++ [f]).length ≤ 16 := by
      rw [List.length_append, List.length_singleton]
      exact room
    exact (Port.inRange_iff _).mpr ⟨fits, counts⟩
  · refine Keeps.latch (h.withPort fun port => ?_) ..
    have ⟨queue, dropped, counts⟩ := (Port.inRange_iff _).mp port
    exact (Port.inRange_iff _).mpr ⟨queue, countUp_le dropped, counts⟩

protected theorem placePeriodic (h : Keeps img s l) : Keeps img s (placePeriodic l) := by
  refine Keeps.foldl (fun m z hm => ?_) _ (h.placeFrame ..).placeStatusE
  split
  · exact hm.placeFrame ..
  · exact hm

protected theorem clearAllCounters (h : Keeps img s l) : Keeps img s (clearAllCounters l) := by
  refine h.blocks (fun port => ?_) (fun _ => ?_) (fun slots n => ?_) id rfl id fun k => ?_
  · have ⟨queue, _, counts⟩ := (Port.inRange_iff _).mp port
    exact (Port.inRange_iff _).mpr ⟨queue, Nat.zero_le _, counts⟩
  · exact ⟨Nat.zero_le _, fun n => by simp [Machine.clearAllCounters, RuleCounts.inRange]⟩
  · have ⟨_, _, age⟩ := (Slot.inForm_iff _).mp (slots n)
    simpa [Machine.clearAllCounters, Slot.inForm_iff] using age
  · refine k.mapped (fun _ => rfl) (fun _ => rfl) fun n hn => ?_
    obtain ⟨s0, s1, a0, a1, kind, consecutive, -⟩ := n.inForm_iff.mp hn
    exact (Node.inForm_iff _).mpr ⟨s0, s1, a0, a1, kind, consecutive, Nat.zero_le _⟩

/-! ### Activation (R165) -/

protected theorem airActivates (h : Keeps img s l) : Keeps img s (airActivates img l) :=
  (h.withAir fun _ => withTargets_followsMode ..).issueTargets img

protected theorem handOver (h : Keeps img s l) (old : Bank) : Keeps img s (handOver old img l) := by
  have directory (k : Link) (form : k.Form) : (directoryActivates img k).Form := by
    refine form.mapped (fun n => ?_) (fun n => ?_) (fun n hn => ?_) <;> split
    · rfl
    · rfl
    · rfl
    · rfl
    · rfl
    · rfl
    · exact hn
    · exact hn
    · exact hn
  have sequenced : Keeps img s
      (sequencerActivates old img ((slotsActivate old img l).onLinkBlock (directoryActivates img))) :=
    ((h.slotsActivate old).onLinkBlock (directory _)).inner (outer_sequencerActivates ..) (·.sequencerActivates ..)
  have avail : Keeps img s (workOutAvail img
      (sequencerActivates old img ((slotsActivate old img l).onLinkBlock (directoryActivates img)))) :=
    sequenced.blocks id id id id rfl id id
  have budget : Keeps img s (budgetActivates img
      (sequencerActivates old img ((slotsActivate old img l).onLinkBlock (directoryActivates img)))) := by
    unfold budgetActivates
    dsimp only
    split
    · exact (avail.roomNotice img).testShed img
    · exact avail.testShed img
  exact (Keeps.airActivates (budget.withPlanner _)).latch ..

end Keeps

/-- An activation makes the damper targets those of the mode under the new image, whatever they were (R71). -/
theorem handOver_followsMode (old img : Bank) (l : Live) : (handOver old img l).air.followsMode img = true := by
  unfold handOver airActivates
  dsimp only
  rw [outer_air (outer_latch ..), outer_air (outer_issueTargets ..)]
  exact Keeps.withTargets_followsMode ..

end Sys2Proof.Machine


/-! What a command leaves of the queue of commands, the straps, the banks and the store (R161). -/

namespace Sys2Proof.Machine

/-! ### Requests and the other commands -/

/-- The request that a command stands for, none for an event. -/
def requestOf : Instr → Option Request
  | .identify => some .identify
  | .readSlot slot part => some (.readSlot slot part)
  | .forceSlot slot value => some (.forceSlot slot value)
  | .releaseSlot slot => some (.releaseSlot slot)
  | .readActuator role part => some (.readActuator role part)
  | .clearFault role => some (.clearFault role)
  | .readNode address part => some (.readNode address part)
  | .excludeNode address => some (.excludeNode address)
  | .admitNode address => some (.admitNode address)
  | .loadPoint page offset => some (.loadPoint page offset)
  | .loadData count data => some (.loadData count data)
  | .readPage bank page offset => some (.readPage bank page offset)
  | .copyActive => some .copyActive
  | .checkPending => some .checkPending
  | .activate check => some (.activate check)
  | .save => some .save
  | .protect groups => some (.protect groups)
  | .unprotect groups => some (.unprotect groups)
  | .markFirst rule => some (.markFirst rule)
  | .markLast rule => some (.markLast rule)
  | .keep rule => some (.keep rule)
  | .clearMarked => some .clearMarked
  | .nodeRead address register count => some (.nodeRead address register count)
  | .nodeWrite address register count => some (.nodeWrite address register count)
  | .windowPut offset count data => some (.windowPut offset count data)
  | .windowGet offset => some (.windowGet offset)
  | .readEvents kind part => some (.readEvents kind part)
  | .clearEvents kinds => some (.clearEvents kinds)
  | .setEventMask kinds => some (.setEventMask kinds)
  | .forceEvent kind => some (.forceEvent kind)
  | .readCounters group index part => some (.readCounters group index part)
  | .clearCounters => some .clearCounters
  | .sleep => some .sleep
  | .restart => some .restart
  | _ => none

theorem eq_commandOf {c : Instr} {r : Request} (h : requestOf c = some r) : c = commandOf r := by
  cases c <;> cases h <;> rfl

/-- A request's command carries the request out. -/
theorem exec_commandOf (r : Request) (s : State) : exec (commandOf r) s = .next (carryOut r s) := by
  cases r <;> rfl

/-! ### What stands through a command -/

/-- What a command leaves: the queue and the straps, and ACTIVE, PENDING and the store's image where it may not change
them. -/
structure Leaves (activates loads saves : Prop) (s t : State) : Prop where
  pending : t.pending = s.pending
  straps : t.straps = s.straps
  active : ¬activates → t.active = s.active
  loading : ¬loads → t.loading = s.loading
  image : ¬saves → t.store.image = s.store.image

namespace Leaves

variable {a b c : Prop} {s t : State}

protected theorem refl (s : State) : Leaves a b c s s := ⟨rfl, rfl, fun _ => rfl, fun _ => rfl, fun _ => rfl⟩

protected theorem mono {a' b' c' : Prop} (h : Leaves a b c s t) (ha : a → a') (hb : b → b') (hc : c → c') :
    Leaves a' b' c' s t :=
  ⟨h.pending, h.straps, fun n => h.active (mt ha n), fun n => h.loading (mt hb n), fun n => h.image (mt hc n)⟩

protected theorem onLive (h : Leaves a b c s t) (f : Live → Live) : Leaves a b c s (t.onLive f) :=
  ⟨h.pending, h.straps, h.active, h.loading, h.image⟩

protected theorem answer (h : Leaves a b c s t) (code : Byte) (result : Nat) (data : List Byte) :
    Leaves a b c s (answer code result data t) := h.onLive _

protected theorem running (s : State) (f : Live → Live) : Leaves a b c s (s.running f) := by
  unfold State.running
  split
  · exact .refl s
  · exact (Leaves.refl s).onLive f

protected theorem takeRequest {body : State → State} (carried : ∀ t, Leaves a b c s t → Leaves a b c s (body t)) :
    Leaves a b c s (takeRequest body s) := by
  have woken : Leaves a b c s (wakeForRequest s) := by
    unfold wakeForRequest
    split
    · exact (Leaves.refl s).onLive _
    · exact .refl s
  unfold Machine.takeRequest
  split
  · exact .refl s
  · exact (carried _ woken).onLive _

protected theorem requestKeeping (code : Byte) {body : State → State}
    (carried : ∀ t, Leaves a b c s t → Leaves a b c s (body t)) : Leaves a b c s (requestKeeping code body s) := by
  refine Leaves.takeRequest fun t h => ?_
  unfold orBusy
  split
  · exact h.answer ..
  · exact carried t h

protected theorem request (code : Byte) {body : State → State}
    (carried : ∀ t, Leaves a b c s t → Leaves a b c s (body t)) : Leaves a b c s (request code body s) :=
  Leaves.requestKeeping code fun t h => (carried t h).onLive _

end Leaves

/-- The requests that may write PENDING. -/
def loadsPending (r : Request) : Prop := (∃ n d, r = .loadData n d) ∨ r = .copyActive ∨ r = .clearMarked

/-- What a request leaves: only ACTIVATE writes ACTIVE, only LOAD_DATA, COPY_ACTIVE and CLEAR_MARKED write PENDING, and none
writes the store's image (R161). -/
theorem carryOut_leaves (r : Request) (s : State) :
    Leaves (∃ n, r = .activate n) (loadsPending r) False s (carryOut r s) := by
  cases r with
  | identify => exact .requestKeeping _ fun t h => h.answer ..
  | readSlot slot part =>
    refine .requestKeeping _ fun t h => ?_
    unfold readSlotBody; repeat' split
    all_goals exact h.answer ..
  | forceSlot slot value =>
    refine .request _ fun t h => ?_
    unfold forceSlotBody; dsimp only; repeat' split
    · exact h.answer ..
    · exact (h.onLive _).answer ..
    · exact h.answer ..
  | releaseSlot slot =>
    refine .request _ fun t h => ?_
    unfold releaseSlotBody; split
    · exact h.answer ..
    · exact (h.onLive _).answer ..
  | readActuator role part =>
    refine .requestKeeping _ fun t h => ?_
    unfold readActuatorBody; repeat' split
    all_goals exact h.answer ..
  | clearFault role =>
    refine .request _ fun t h => ?_
    unfold clearFaultBody; split
    · exact h.answer ..
    · exact (h.onLive _).answer ..
  | readNode address part =>
    refine .requestKeeping _ fun t h => ?_
    unfold readNodeBody; repeat' split
    all_goals exact h.answer ..
  | excludeNode address =>
    refine .request _ fun t h => ?_
    unfold excludeNodeBody; split
    · exact h.answer ..
    · exact (h.onLive _).answer ..
  | admitNode address =>
    refine .request _ fun t h => ?_
    unfold admitNodeBody; split
    · exact h.answer ..
    · exact (h.onLive _).answer ..
  | loadPoint page offset =>
    refine .request _ fun t h => ?_
    unfold loadPointBody; repeat' split
    · exact h.answer ..
    · exact h.answer ..
    · exact (h.onLive _).answer ..
  | loadData count data =>
    refine .request _ fun t h => ?_
    unfold loadDataBody; dsimp only; repeat' split
    · exact h.answer ..
    · exact h.answer ..
    · exact h.answer ..
    · exact ⟨h.pending, h.straps, h.active, fun none_loads => absurd (.inl ⟨count, data, rfl⟩) none_loads, h.image⟩
  | readPage bank page offset =>
    refine .requestKeeping _ fun t h => ?_
    unfold readPageBody; repeat' split
    all_goals exact h.answer ..
  | copyActive =>
    refine .request _ fun t h => ?_
    exact ⟨h.pending, h.straps, h.active, fun none_loads => absurd (.inr (.inl rfl)) none_loads, h.image⟩
  | checkPending => exact .requestKeeping _ fun t h => h.answer ..
  | activate check =>
    refine .request _ fun t h => ?_
    unfold activateBody; repeat' split
    · exact h.answer ..
    · exact h.answer ..
    · exact h.answer ..
    · exact h.answer ..
    · exact ⟨h.pending, h.straps, fun none_activates => absurd ⟨check, rfl⟩ none_activates, h.loading, h.image⟩
  | save =>
    refine .request _ fun t h => ?_
    unfold saveBody; dsimp only; split
    · exact h.answer ..
    · exact ⟨h.pending, h.straps, h.active, h.loading, h.image⟩
  | protect groups =>
    refine .request _ fun t h => ?_
    unfold protectBody; repeat' split
    · exact h.answer ..
    · exact h.answer ..
    · exact h.onLive _
  | unprotect groups =>
    refine .request _ fun t h => ?_
    unfold unprotectBody; repeat' split
    · exact h.answer ..
    · exact h.answer ..
    · exact h.answer ..
    · exact h.onLive _
  | markFirst rule =>
    refine .requestKeeping _ fun t h => ?_
    unfold markFirstBody; split
    all_goals exact (h.onLive _).answer ..
  | markLast rule =>
    refine .requestKeeping _ fun t h => ?_
    unfold markLastBody; repeat' split
    all_goals exact (h.onLive _).answer ..
  | keep rule =>
    refine .requestKeeping _ fun t h => ?_
    unfold keepBody; repeat' split
    · exact (h.onLive _).answer ..
    · exact h.answer ..
    all_goals exact (h.onLive _).answer ..
  | clearMarked =>
    refine .requestKeeping _ fun t h => ?_
    unfold clearMarkedBody; dsimp only; repeat' split
    · exact (h.onLive _).answer ..
    · exact ⟨h.pending, h.straps, h.active, fun none_loads => absurd (.inr (.inr rfl)) none_loads, h.image⟩
    · exact (h.onLive _).answer ..
  | nodeRead address register count =>
    refine .request _ fun t h => ?_
    unfold nodeReadBody; repeat' split
    · exact h.answer ..
    · exact h.answer ..
    · exact h.onLive _
  | nodeWrite address register count =>
    refine .request _ fun t h => ?_
    unfold nodeWriteBody; repeat' split
    · exact h.answer ..
    · exact h.answer ..
    · exact h.onLive _
  | windowPut offset count data =>
    refine .request _ fun t h => ?_
    unfold windowPutBody; split
    · exact h.answer ..
    · exact (h.onLive _).answer ..
  | windowGet offset =>
    refine .request _ fun t h => ?_
    unfold windowGetBody; split
    all_goals exact h.answer ..
  | readEvents kind part =>
    refine .requestKeeping _ fun t h => ?_
    unfold readEventsBody; repeat' split
    all_goals exact h.answer ..
  | clearEvents kinds =>
    refine .request _ fun t h => ?_
    unfold clearEventsBody; split
    · exact (h.onLive _).answer ..
    · exact h.answer ..
  | setEventMask kinds =>
    refine .request _ fun t h => ?_
    unfold setEventMaskBody; split
    · exact (h.onLive _).answer ..
    · exact h.answer ..
  | forceEvent kind =>
    refine .request _ fun t h => ?_
    unfold forceEventBody; split
    · exact h.answer ..
    · exact (h.onLive _).answer ..
  | readCounters group index part =>
    refine .requestKeeping _ fun t h => ?_
    unfold readCountersBody; split
    all_goals exact h.answer ..
  | clearCounters => exact .request _ fun t h => (h.onLive _).answer ..
  | sleep =>
    refine .request _ fun t h => ?_
    unfold sleepBody; split
    · exact (h.answer ..).onLive _
    · exact h.answer ..
    · exact h.answer ..
  | restart => exact .request _ fun t h => (h.answer ..).onLive _

/-! ### Starts, frames, the store and the reset pin -/

/-- What a start cuts off leaves the banks and the store's image (R168). -/
theorem cutOff_leaves (s : State) : Leaves False False False s (cutOff s) := by
  unfold cutOff
  dsimp only
  repeat' split
  all_goals exact ⟨rfl, rfl, fun _ => rfl, fun _ => rfl, fun _ => rfl⟩

/-- A start may load both banks and leaves the store's image (R180). -/
theorem startPart_leaves (cause : StartCause) (s : State) : Leaves True True False s (startPart cause s) := by
  obtain ⟨pending, straps, -, -, image⟩ := cutOff_leaves s
  unfold startPart
  dsimp only
  split
  all_goals exact ⟨pending, straps, fun h => absurd trivial h, fun h => absurd trivial h, image⟩

/-- The request that a frame carries, for a frame on the bus (R1, R185). -/
def carriedRequest (f : BusFrame) : Option Request := decodeRequest (f.data.take (min f.dlc 8))

theorem badRequest_leaves {a b c : Prop} (data : List Byte) (s : State) : Leaves a b c s (badRequest data s) :=
  .takeRequest fun _ h => h.answer ..

/-- A frame writes a bank only where it carries such a request. -/
theorem receiveFrame_leaves (f : BusFrame) (s : State) :
    Leaves (∃ n, carriedRequest f = some (.activate n)) (∃ r, carriedRequest f = some r ∧ loadsPending r) False s (receiveFrame f s) := by
  have heard := (Leaves.refl (a := ∃ n, carriedRequest f = some (.activate n)) (b := ∃ r, carriedRequest f = some r ∧ loadsPending r)
    (c := False) s).onLive fun l => { l with port := l.port.goodReception }
  unfold receiveFrame
  dsimp only
  split
  · split
    · exact heard
    · unfold routeFrame
      split
      · unfold takeFrame
        split
        case h_1 r carried =>
          have own := carryOut_leaves r (s.onLive fun l => { l with port := l.port.goodReception })
          have frame := own.mono (a' := ∃ n, carriedRequest f = some (.activate n)) (b' := ∃ r, carriedRequest f = some r ∧ loadsPending r)
            (c' := False) (fun ⟨n, hr⟩ => ⟨n, hr ▸ carried⟩) (fun hr => ⟨r, carried, hr⟩) id
          exact ⟨frame.pending, frame.straps, frame.active, frame.loading, frame.image⟩
        case h_2 =>
          have own := badRequest_leaves (a := ∃ n, carriedRequest f = some (.activate n))
            (b := ∃ r, carriedRequest f = some r ∧ loadsPending r) (c := False) (record f).data
            (s.onLive fun l => { l with port := l.port.goodReception })
          exact ⟨own.pending, own.straps, own.active, own.loading, own.image⟩
      · split
        · exact heard.onLive _
        · exact heard.onLive _
  · exact .refl s

theorem programItem_leaves (flaws : List Host.Cell) (item : Nat) (s : State) :
    Leaves False False True s (programItem flaws item s) := by
  unfold programItem
  dsimp only
  repeat' split
  all_goals exact ⟨rfl, rfl, fun _ => rfl, fun _ => rfl, fun h => absurd trivial h⟩

theorem protectWritten_leaves {a b c : Prop} (s : State) : Leaves a b c s (protectWritten s) := by
  unfold protectWritten
  split
  · exact ⟨rfl, rfl, fun _ => rfl, fun _ => rfl, fun _ => rfl⟩
  · exact ⟨rfl, rfl, fun _ => rfl, fun _ => rfl, fun _ => rfl⟩
  · exact .refl s

/-- The transmission that starts the part is that of the reply to RESTART (R171). -/
theorem transmissionDone_leaves {s : State} (free : s.held = false) :
    Leaves (startCause .transmitSuccess s ≠ none) (startCause .transmitSuccess s ≠ none) False s (transmissionDone s) := by
  unfold transmissionDone
  split
  · exact .refl s
  · rename_i i sending
    split
    · rename_i sent
      have starts : startCause .transmitSuccess s ≠ none := by simp [startCause, free, sending, sent]
      exact (startPart_leaves .restart s).mono (fun _ => starts) (fun _ => starts) id
    · exact (Leaves.refl s).onLive _

/-! ### Every command -/

/-- The request that a command's frame carries. -/
def carriedBy : Instr → Option Request
  | .frameArrival f => carriedRequest f
  | _ => none

/-- Every command completes, and leaves what it may not change: a start, ACTIVATE and a frame that carries it may write
ACTIVE, a start, the three loading requests and a frame that carries one may write PENDING, and the programming of an item
of a save alone the store's image (R161). -/
theorem exec_leaves (c : Instr) (s : State) : ∃ t, exec c s = .next t ∧
    Leaves (startCause c s ≠ none ∨ (∃ n, c = .activate n) ∨ ∃ n, carriedBy c = some (.activate n))
      (startCause c s ≠ none ∨ (∃ r, c = commandOf r ∧ loadsPending r) ∨ ∃ r, carriedBy c = some r ∧ loadsPending r)
      (∃ flaws, c = .savePageProgrammed flaws) s t := by
  have event (f : Live → Live) (h : exec c s = .next (s.running f)) : ∃ t, exec c s = .next t ∧
      Leaves (startCause c s ≠ none ∨ (∃ n, c = .activate n) ∨ ∃ n, carriedBy c = some (.activate n))
        (startCause c s ≠ none ∨ (∃ r, c = commandOf r ∧ loadsPending r) ∨ ∃ r, carriedBy c = some r ∧ loadsPending r)
        (∃ flaws, c = .savePageProgrammed flaws) s t := ⟨_, h, .running s f⟩
  cases hr : requestOf c with
  | some r =>
    obtain rfl := eq_commandOf hr
    refine ⟨_, exec_commandOf r s, (carryOut_leaves r s).mono (fun ⟨n, hn⟩ => .inr (.inl ⟨n, hn ▸ rfl⟩))
      (fun loads => .inr (.inl ⟨r, rfl, loads⟩)) False.elim⟩
  | none =>
    cases c
    case powerOn =>
      refine ⟨_, rfl, ?_⟩
      split
      · exact .refl s
      · rename_i free
        have starts : startCause .powerOn s ≠ none := by simp [startCause, free]
        exact (startPart_leaves _ s).mono (fun _ => .inl starts) (fun _ => .inl starts) False.elim
    case resetPinAssert =>
      refine ⟨_, rfl, ?_⟩
      split
      · exact .refl s
      · exact ((cutOff_leaves s).onLive _).mono False.elim False.elim False.elim
    case resetPinRelease =>
      refine ⟨_, rfl, ?_⟩
      split
      · rename_i held
        have starts : startCause .resetPinRelease s ≠ none := by simp [startCause, held]
        exact (startPart_leaves _ s).mono (fun _ => .inl starts) (fun _ => .inl starts) False.elim
      · exact .refl s
    case restartDelayExpiry =>
      refine ⟨_, rfl, ?_⟩
      split
      · exact .refl s
      · rename_i due
        have starts : startCause .restartDelayExpiry s ≠ none := by simpa [startCause] using due
        exact (startPart_leaves _ s).mono (fun _ => .inl starts) (fun _ => .inl starts) False.elim
    case transmitSuccess =>
      refine ⟨_, rfl, ?_⟩
      split
      · exact .refl s
      · rename_i free
        exact (transmissionDone_leaves (by simpa using free)).mono .inl .inl False.elim
    case frameArrival f =>
      refine ⟨_, rfl, ?_⟩
      split
      · exact .refl s
      · exact (receiveFrame_leaves f s).mono (fun h => .inr (.inr h)) (fun h => .inr (.inr h)) False.elim
    case unknownRequest data => exact ⟨_, rfl, badRequest_leaves data s⟩
    case savePageProgrammed flaws =>
      refine ⟨_, rfl, ?_⟩
      unfold itemProgrammed
      repeat' split
      · exact .refl s
      · exact (programItem_leaves flaws _ s).mono False.elim False.elim fun _ => ⟨flaws, rfl⟩
      · exact .refl s
    case saveComplete =>
      refine ⟨_, rfl, ?_⟩
      unfold readBackEnds finishSave
      repeat' split
      · exact .refl s
      · exact (Leaves.refl s).onLive _
      · exact .refl s
    case protectWriteDone =>
      refine ⟨_, rfl, ?_⟩
      split
      · exact .refl s
      · exact protectWritten_leaves s
    all_goals
      cases hr
      try exact event _ rfl

/-- Settles O2: every command answers a next state, and what it leaves holds the queue and the straps. -/
theorem commandsCompleteAndKeepQueueAndStraps : Obligations.CommandsCompleteAndKeepQueueAndStraps := by
  intro c s
  obtain ⟨t, ht, leaves⟩ := exec_leaves c s
  exact ⟨t, ht, leaves.pending, leaves.straps⟩

theorem of_change {p : Prop} {α : Type} {x y : α} (changed : y ≠ x) (kept : ¬p → y = x) : p :=
  Classical.byContradiction fun other => changed (kept other)

/-- Settles O59: what a command leaves, read backwards for each bank. -/
theorem banksChangeOnlyByTheirCommands : Obligations.BanksChangeOnlyByTheirCommands := by
  intro c s t ht carried
  have carried_eq : carried = carriedBy c := by cases c <;> rfl
  obtain ⟨u, hu, leaves⟩ := exec_leaves c s
  obtain rfl : u = t := by simpa [hu] using ht
  rw [carried_eq]
  refine ⟨(of_change · leaves.active), fun changed => ?_, (of_change · leaves.image)⟩
  obtain starts | ⟨r, rfl, loads⟩ | ⟨r, carries, loads⟩ := of_change changed leaves.loading
  · exact .inl starts
  · obtain ⟨n, d, rfl⟩ | rfl | rfl := loads
    · exact .inr (.inl ⟨n, d, rfl⟩)
    · exact .inr (.inr (.inl rfl))
    · exact .inr (.inr (.inr (.inl rfl)))
  · obtain ⟨n, d, rfl⟩ | rfl | rfl := loads
    · exact .inr (.inr (.inr (.inr (.inl ⟨n, d, carries⟩))))
    · exact .inr (.inr (.inr (.inr (.inr (.inl carries)))))
    · exact .inr (.inr (.inr (.inr (.inr (.inr carries)))))

end Sys2Proof.Machine


/-! The invariants: every command keeps the forms of the banks, the counters, the damper targets, the collections and the
directory. -/

namespace Sys2Proof.Machine

/-- The five forms carried from one state to another. -/
structure StateKeeps (s t : State) : Prop where
  images : s.imagesWf = true → t.imagesWf = true
  counters : s.countersWf = true → t.countersWf = true
  targets : s.airWf = true → t.airWf = true
  works : s.queueWf = true → t.queueWf = true
  directory : s.directoryWf = true → t.directoryWf = true

namespace StateKeeps

variable {s t : State}

protected theorem refl (s : State) : StateKeeps s s := ⟨id, id, id, id, id⟩

/-- A live part kept in form, under banks that stand or are in form. -/
protected theorem live {u : State} (h : StateKeeps s t) (kept : Keeps t.active t.live u.live) (active : u.active = t.active)
    (banks : t.imagesWf = true → bankWf u.loading = true ∧ bankWf u.store.image = true) : StateKeeps s u := by
  refine ⟨fun w => ?_, fun w => ?_, fun w => ?_, fun w => ?_, fun w => ?_⟩
  · have ⟨ok, _, _, management⟩ := t.imagesWf_iff.mp (h.images w)
    have ⟨loading, image⟩ := banks (h.images w)
    exact u.imagesWf_iff.mpr ⟨active ▸ ok, loading, image, kept.management management⟩
  · have ⟨port, classifier, slots⟩ := t.countersWf_iff.mp (h.counters w)
    exact u.countersWf_iff.mpr ⟨kept.port port, kept.classifier classifier, kept.slots slots⟩
  · unfold State.airWf
    rw [active]
    exact kept.targets (h.targets w)
  · exact u.queueWf_iff.mpr (kept.works (t.queueWf_iff.mp (h.works w)))
  · exact u.directoryWf_iff.mpr (kept.directory (t.directoryWf_iff.mp (h.directory w)))

protected theorem onLive (h : StateKeeps s t) {f : Live → Live} (kept : Keeps t.active t.live (f t.live)) :
    StateKeeps s (t.onLive f) :=
  h.live kept rfl fun w => have ⟨_, loading, image, _⟩ := t.imagesWf_iff.mp w; ⟨loading, image⟩

protected theorem answer (h : StateKeeps s t) (code : Byte) (result : Nat) (data : List Byte) :
    StateKeeps s (answer code result data t) := h.onLive ((Keeps.refl ..).reply ..)

protected theorem running (s : State) {f : Live → Live} (kept : Keeps s.active s.live (f s.live)) :
    StateKeeps s (s.running f) := by
  unfold State.running
  split
  · exact .refl s
  · exact (StateKeeps.refl s).onLive kept

/-- The management unit's own state kept in form, under banks that stand or are in form. -/
protected theorem managed {u : State} (h : StateKeeps s t) {m : Management} (live : u.live = { t.live with management := m })
    (form : t.live.management.wf = true → m.wf = true) (active : u.active = t.active)
    (banks : t.imagesWf = true → bankWf u.loading = true ∧ bankWf u.store.image = true) : StateKeeps s u :=
  h.live (live ▸ (Keeps.refl ..).blocks id id id id rfl form id) active banks

/-- The management unit's own state kept in form, under the same banks. -/
protected theorem managedOnly {u : State} (h : StateKeeps s t) {m : Management}
    (live : u.live = { t.live with management := m }) (form : t.live.management.wf = true → m.wf = true)
    (active : u.active = t.active) (loading : u.loading = t.loading) (image : u.store.image = t.store.image) :
    StateKeeps s u :=
  h.managed live form active fun w =>
    have ⟨_, pending, stored, _⟩ := t.imagesWf_iff.mp w; ⟨loading ▸ pending, image ▸ stored⟩

/-! ### Requests -/

protected theorem takeRequest {body : State → State} (carried : ∀ t, StateKeeps s t → StateKeeps s (body t)) :
    StateKeeps s (takeRequest body s) := by
  have woken : StateKeeps s (wakeForRequest s) := by
    unfold wakeForRequest
    split
    · exact (StateKeeps.refl s).onLive ((Keeps.refl ..).enterWaking _)
    · exact .refl s
  unfold Machine.takeRequest
  split
  · exact .refl s
  · exact (carried _ woken).onLive ((Keeps.refl ..).wakeCheck _)

protected theorem requestKeeping (code : Byte) {body : State → State}
    (carried : ∀ t, StateKeeps s t → StateKeeps s (body t)) : StateKeeps s (requestKeeping code body s) := by
  refine StateKeeps.takeRequest fun t h => ?_
  unfold orBusy
  split
  · exact h.answer ..
  · exact carried t h

/-- A change of the rule-range sequence to one in form. -/
protected theorem setRange (h : StateKeeps s t) {r : RuleRange}
    (form : t.live.management.ruleRange.Form → r.Form) : StateKeeps s (setRange r t) := by
  refine h.managedOnly rfl (fun w => ?_) rfl rfl rfl
  have ⟨pointer, range⟩ := (Management.wf_iff _).mp w
  exact (Management.wf_iff _).mpr ⟨pointer, form range⟩

protected theorem request (code : Byte) {body : State → State}
    (carried : ∀ t, StateKeeps s t → StateKeeps s (body t)) : StateKeeps s (request code body s) :=
  StateKeeps.requestKeeping code fun t h => (carried t h).setRange (by exact fun _ => trivial)

protected theorem refuseRange (h : StateKeeps s t) (code : Byte) (result : Nat) :
    StateKeeps s (refuseRange code result t) :=
  (h.setRange (by exact fun _ => trivial)).answer ..

protected theorem loadPoint (h : StateKeeps s t) (page offset : Nat) : StateKeeps s (loadPointBody page offset t) := by
  unfold loadPointBody
  repeat' split
  · exact h.answer ..
  · exact h.answer ..
  · rename_i inside _
    refine StateKeeps.answer ?_ ..
    refine h.managedOnly rfl (fun w => ?_) rfl rfl rfl
    have ⟨_, range⟩ := (Management.wf_iff _).mp w
    refine (Management.wf_iff _).mpr ⟨fun p o hp => ?_, range⟩
    cases hp
    omega

theorem writeWrapped_offset_le (page : Nat) (data : List Byte) (b : Bank) {off : Nat} (h : off ≤ 127) :
    (writeWrapped b page off data).2 ≤ 127 := by
  induction data generalizing b off with
  | nil => exact h
  | cons v rest ih => exact ih _ (by omega)

protected theorem loadData (h : StateKeeps s t) (count : Nat) (data : List Byte) :
    StateKeeps s (loadDataBody count data t) := by
  unfold loadDataBody
  dsimp only
  repeat' split
  · exact h.answer ..
  · exact h.answer ..
  · exact h.answer ..
  · rename_i page off pointed _
    refine StateKeeps.answer ?_ ..
    refine h.managed rfl (fun w => ?_) rfl fun w => ?_
    · have ⟨pointer, range⟩ := (Management.wf_iff _).mp w
      have ⟨page_le, off_le⟩ := pointer page off pointed
      refine (Management.wf_iff _).mpr ⟨fun p o hp => ?_, range⟩
      cases hp
      exact ⟨page_le, writeWrapped_offset_le page _ _ off_le⟩
    · have ⟨_, loading, image, management⟩ := t.imagesWf_iff.mp w
      have ⟨page_le, _⟩ := ((Management.wf_iff _).mp management).1 page off pointed
      exact ⟨writeWrapped_wf (by omega) _ _ off loading, image⟩

protected theorem activate (h : StateKeeps s t) (check : Nat) : StateKeeps s (activateBody check t) := by
  unfold activateBody
  repeat' split
  iterate 4 exact h.answer ..
  refine StateKeeps.answer ?_ ..
  have kept : Keeps t.loading t.live (settleCheck (handOver t.active t.loading t.live)) :=
    ((Keeps.refl ..).handOver _).settleCheck
  refine ⟨fun w => ?_, fun w => ?_, fun _ => ?_, fun w => ?_, fun w => ?_⟩
  · have ⟨_, loading, image, management⟩ := t.imagesWf_iff.mp (h.images w)
    exact (State.imagesWf_iff _).mpr ⟨loading, loading, image, kept.management management⟩
  · have ⟨port, classifier, slots⟩ := t.countersWf_iff.mp (h.counters w)
    exact (State.countersWf_iff _).mpr ⟨kept.port port, kept.classifier classifier, kept.slots slots⟩
  · exact (Keeps.refl t.loading _).settleCheck.targets (handOver_followsMode ..)
  · exact (State.queueWf_iff _).mpr (kept.works (t.queueWf_iff.mp (h.works w)))
  · exact (State.directoryWf_iff _).mpr (kept.directory (t.directoryWf_iff.mp (h.directory w)))

protected theorem markLast (h : StateKeeps s t) (n : Nat) : StateKeeps s (markLastBody n t) := by
  unfold markLastBody
  repeat' split
  · rename_i inside
    exact (h.setRange (by exact fun _ => ⟨inside.1, inside.2, by simp, by simp, List.nodup_nil⟩)).answer ..
  · exact h.refuseRange ..
  · exact h.refuseRange ..

protected theorem keep (h : StateKeeps s t) (n : Nat) : StateKeeps s (keepBody n t) := by
  unfold keepBody
  repeat' split
  · exact h.refuseRange ..
  · exact h.answer ..
  · exact h.refuseRange ..
  · rename_i f l kept marked inside new room
    refine (h.setRange fun form => ?_).answer ..
    rw [marked] at form
    obtain ⟨ordered, last, within, _, distinct⟩ := form
    refine ⟨ordered, last, fun m hm => ?_, ?_, ?_⟩
    · obtain hm | rfl := by simpa using hm
      · exact within m hm
      · omega
    · simp only [keepPlaces] at room
      simp only [List.length_append, List.length_cons, List.length_nil]
      omega
    · simpa [List.nodup_append, distinct] using fun m hm (e : m = n) => new (e ▸ hm)
  · exact h.refuseRange ..

protected theorem clearMarked (h : StateKeeps s t) : StateKeeps s (clearMarkedBody t) := by
  unfold clearMarkedBody
  dsimp only
  repeat' split
  · exact h.refuseRange ..
  · rename_i f l kept marked _
    refine StateKeeps.answer ?_ ..
    refine StateKeeps.setRange ?_ (by exact fun _ => trivial)
    refine h.managed rfl id rfl fun w => ?_
    have ⟨_, loading, image, management⟩ := t.imagesWf_iff.mp w
    have range := ((Management.wf_iff _).mp management).2
    rw [marked] at range
    obtain ⟨_, last, _⟩ := range
    refine ⟨disableRules_wf _ _ loading fun n hn => ?_, image⟩
    have := List.mem_range.mp (List.mem_filter.mp hn).1
    omega
  · exact h.refuseRange ..

/-- A request keeps the forms, whatever the state in which it is taken (R158). -/
protected theorem carryOut (r : Request) (s : State) : StateKeeps s (carryOut r s) := by
  have live {t : State} {f : Live → Live} (h : StateKeeps s t) (kept : Keeps t.active t.live (f t.live)) (code : Byte)
      (result : Nat) (data : List Byte) : StateKeeps s (Machine.answer code result data (t.onLive f)) :=
    (h.onLive kept).answer ..
  cases r with
  | identify => exact .requestKeeping _ fun t h => h.answer ..
  | readSlot slot part =>
    refine .requestKeeping _ fun t h => ?_
    unfold readSlotBody; repeat' split
    all_goals exact h.answer ..
  | forceSlot slot value =>
    refine .request _ fun t h => ?_
    unfold forceSlotBody; dsimp only; repeat' split
    · exact h.answer ..
    · exact live h ((Keeps.refl ..).forceSlotTo ..) ..
    · exact h.answer ..
  | releaseSlot slot =>
    refine .request _ fun t h => ?_
    unfold releaseSlotBody; split
    · exact h.answer ..
    · exact live h ((Keeps.refl ..).releaseSlotOf _) ..
  | readActuator role part =>
    refine .requestKeeping _ fun t h => ?_
    unfold readActuatorBody; repeat' split
    all_goals exact h.answer ..
  | clearFault role =>
    refine .request _ fun t h => ?_
    unfold clearFaultBody; split
    · exact h.answer ..
    · exact live h ((Keeps.refl ..).inner (outer_clearFaultOf ..) (·.clearFaultOf ..)) ..
  | readNode address part =>
    refine .requestKeeping _ fun t h => ?_
    unfold readNodeBody; repeat' split
    all_goals exact h.answer ..
  | excludeNode address =>
    refine .request _ fun t h => ?_
    unfold excludeNodeBody; split
    · exact h.answer ..
    · exact live h ((Keeps.refl ..).excludeEntry ..).settleCheck ..
  | admitNode address =>
    refine .request _ fun t h => ?_
    unfold admitNodeBody; split
    · exact h.answer ..
    · exact live h ((Keeps.refl ..).admitEntry _) ..
  | loadPoint page offset => exact .request _ fun t h => h.loadPoint ..
  | loadData count data => exact .request _ fun t h => h.loadData ..
  | readPage bank page offset =>
    refine .requestKeeping _ fun t h => ?_
    unfold readPageBody; repeat' split
    all_goals exact h.answer ..
  | copyActive =>
    refine .request _ fun t h => StateKeeps.answer (h.managed (u := { t with loading := t.active }) rfl id rfl fun w => ?_) ..
    have ⟨active, _, image, _⟩ := t.imagesWf_iff.mp w
    exact ⟨active, image⟩
  | checkPending => exact .requestKeeping _ fun t h => h.answer ..
  | activate check => exact .request _ fun t h => h.activate check
  | save =>
    refine .request _ fun t h => ?_
    unfold saveBody; dsimp only; split
    · exact h.answer ..
    · refine StateKeeps.answer ?_ ..
      exact h.managedOnly rfl (by exact id) rfl rfl rfl
  | protect groups =>
    refine .request _ fun t h => ?_
    unfold protectBody; repeat' split
    · exact h.answer ..
    · exact h.answer ..
    · exact h.managedOnly rfl (by exact id) rfl rfl rfl
  | unprotect groups =>
    refine .request _ fun t h => ?_
    unfold unprotectBody; repeat' split
    · exact h.answer ..
    · exact h.answer ..
    · exact h.answer ..
    · exact h.managedOnly rfl (by exact id) rfl rfl rfl
  | markFirst rule =>
    refine .requestKeeping _ fun t h => ?_
    unfold markFirstBody; split
    · rename_i inside
      exact (h.setRange (by exact fun _ => inside)).answer ..
    · exact h.refuseRange ..
  | markLast rule => exact .requestKeeping _ fun t h => h.markLast rule
  | keep rule => exact .requestKeeping _ fun t h => h.keep rule
  | clearMarked => exact .requestKeeping _ fun t h => h.clearMarked
  | nodeRead address register count =>
    refine .request _ fun t h => ?_
    unfold nodeReadBody; repeat' split
    · exact h.answer ..
    · exact h.answer ..
    · exact h.onLive (Keeps.placeRequest ((Keeps.refl ..).onManagement (by exact id)) ..)
  | nodeWrite address register count =>
    refine .request _ fun t h => ?_
    unfold nodeWriteBody; repeat' split
    · exact h.answer ..
    · exact h.answer ..
    · exact h.onLive (Keeps.placeRequest ((Keeps.refl ..).onManagement (by exact id)) ..)
  | windowPut offset count data =>
    refine .request _ fun t h => ?_
    unfold windowPutBody; split
    · exact h.answer ..
    · exact live h ((Keeps.refl ..).onLinkBlock (by exact id)) ..
  | windowGet offset =>
    refine .request _ fun t h => ?_
    unfold windowGetBody; split
    all_goals exact h.answer ..
  | readEvents kind part =>
    refine .requestKeeping _ fun t h => ?_
    unfold readEventsBody; repeat' split
    all_goals exact h.answer ..
  | clearEvents kinds =>
    refine .request _ fun t h => ?_
    unfold clearEventsBody; split
    · exact live h ((Keeps.refl ..).withEvents _) ..
    · exact h.answer ..
  | setEventMask kinds =>
    refine .request _ fun t h => ?_
    unfold setEventMaskBody; split
    · exact live h ((Keeps.refl ..).withEvents _) ..
    · exact h.answer ..
  | forceEvent kind =>
    refine .request _ fun t h => ?_
    unfold forceEventBody; split
    · exact h.answer ..
    · exact live h ((Keeps.refl ..).latch ..) ..
  | readCounters group index part =>
    refine .requestKeeping _ fun t h => ?_
    unfold readCountersBody; split
    all_goals exact h.answer ..
  | clearCounters => exact .request _ fun t h => live h (Keeps.refl ..).clearAllCounters ..
  | sleep =>
    refine .request _ fun t h => ?_
    unfold sleepBody; split
    · exact (h.answer ..).onLive ((Keeps.refl ..).askSettle _).settleCheck
    · exact h.answer ..
    · exact h.answer ..
  | restart => exact .request _ fun t h => (h.answer ..).onLive ((Keeps.refl ..).withPart _)

protected theorem badRequest (data : List Byte) (s : State) : StateKeeps s (badRequest data s) :=
  .takeRequest fun _ h => h.answer ..

/-! ### Starts, frames, transmissions and the store -/

protected theorem trans {u : State} (h : StateKeeps s t) (k : StateKeeps t u) : StateKeeps s u :=
  ⟨k.images ∘ h.images, k.counters ∘ h.counters, k.targets ∘ h.targets, k.works ∘ h.works, k.directory ∘ h.directory⟩

theorem cutOff_live (s : State) :
    (Machine.cutOff s).live = onManagement (fun m => { m with inProgress := none, saving := none }) s.live := by
  unfold Machine.cutOff
  dsimp only
  repeat' split
  all_goals rfl

protected theorem cutOff (s : State) : StateKeeps s (cutOff s) := by
  obtain ⟨-, -, active, loading, image⟩ := cutOff_leaves s
  exact (StateKeeps.refl s).managedOnly (cutOff_live s) (by exact id) (active id) (loading id) (image id)

/-- The start-up values are in form, and the start-up sequence keeps them so (R180). -/
protected theorem startWith {img : Bank} (s : State) (cause : StartCause) (set : BitVec 4) (invalid : Bool)
    (loaded : s.imagesWf = true → bankWf img = true) : StateKeeps s (startWith img cause set invalid s) := by
  have kept : Keeps img (startValues img cause s.straps set invalid)
      (startSequence invalid (startValues img cause s.straps set invalid)) := by
    unfold startSequence
    split
    · exact ((Keeps.refl ..).latch ..).startSeries
    · exact (Keeps.refl ..).startSeries
  refine ⟨fun w => ?_, fun _ => ?_, fun _ => ?_, fun _ => ?_, fun _ => ?_⟩
  · have ⟨_, _, image, _⟩ := s.imagesWf_iff.mp w
    exact (State.imagesWf_iff _).mpr ⟨loaded w, loaded w, image, kept.management rfl⟩
  · refine (State.countersWf_iff _).mpr ⟨kept.port rfl, kept.classifier ⟨Nat.zero_le _, fun n => ?_⟩, kept.slots fun n => ?_⟩
    · simp [startValues, Classifier.initial, RuleCounts.inRange]
    · simp [startValues, Slot.initial, Slot.inForm]
  · exact kept.targets (by simp [startValues, Air.initial, Air.followsMode, modeTargets])
  · exact (State.queueWf_iff _).mpr (kept.works ⟨rfl, by simp [startValues, Sequencer.initial, Sequencer.workers]⟩)
  · exact (State.directoryWf_iff _).mpr (kept.directory (by simp [startValues, Link.initial, Link.Form]))

protected theorem startPart (cause : StartCause) (s : State) : StateKeeps s (startPart cause s) := by
  unfold Machine.startPart
  dsimp only
  split
  · refine (StateKeeps.cutOff s).trans (.startWith _ _ _ _ fun w => ?_)
    have ⟨_, _, image, _⟩ := (State.imagesWf_iff _).mp w
    exact image
  · exact (StateKeeps.cutOff s).trans (.startWith _ _ _ _ fun _ => rfl)

protected theorem holdReset (s : State) : StateKeeps s (holdReset s) :=
  (StateKeeps.cutOff s).onLive ((Keeps.refl ..).blocks (by exact id) (by exact id) id id rfl id (by exact id))

protected theorem receiveFrame (f : BusFrame) (s : State) : StateKeeps s (receiveFrame f s) := by
  have heard : StateKeeps s (s.onLive fun l => { l with port := l.port.goodReception }) := by
    refine (StateKeeps.refl s).onLive ((Keeps.refl ..).withPort fun port => ?_)
    have ⟨queue, dropped, sent, received⟩ := (Port.inRange_iff _).mp port
    exact (Port.inRange_iff _).mpr ⟨queue, dropped, sent, by dsimp only [Port.goodReception]; omega⟩
  unfold Machine.receiveFrame
  dsimp only
  split
  · split
    · exact heard
    · unfold routeFrame
      split
      · unfold takeFrame
        split
        · exact heard.trans (.carryOut ..)
        · exact heard.trans (.badRequest ..)
      · split
        · refine heard.onLive ?_
          unfold wakeFilter
          split
          · exact (((Keeps.refl ..).queueFrame _).enterWaking _).wakeCheck _
          · exact .refl ..
        · exact heard.onLive ((Keeps.refl ..).queueFrame _)
  · exact .refl s

protected theorem transmissionDone (s : State) : StateKeeps s (transmissionDone s) := by
  unfold Machine.transmissionDone
  split
  · exact .refl s
  · split
    · exact .startPart ..
    · refine (StateKeeps.refl s).onLive ((Keeps.refl ..).withPort fun port => ?_)
      have ⟨queue, dropped, sent, received⟩ := (Port.inRange_iff _).mp port
      exact (Port.inRange_iff _).mpr ⟨queue, dropped, by dsimp only; omega, received⟩

protected theorem itemProgrammed (flaws : List Host.Cell) (s : State) : StateKeeps s (itemProgrammed flaws s) := by
  unfold Machine.itemProgrammed programItem
  dsimp only
  repeat' split
  · rename_i item _ page
    refine (StateKeeps.refl s).managed rfl (by exact id) rfl fun w => ?_
    have ⟨_, loading, image, _⟩ := s.imagesWf_iff.mp w
    have inside : addressOf item 0 + 128 ≤ bankSize := by simp only [addressOf, bankSize, checkItem] at page ⊢; omega
    exact ⟨loading, writeCells_wf _ _ _ (copyBytes_wf _ _ _ _ image inside)⟩
  · exact (StateKeeps.refl s).managedOnly rfl (by exact id) rfl rfl rfl
  · exact .refl s
  · exact .refl s

protected theorem readBackEnds (s : State) : StateKeeps s (readBackEnds s) := by
  have saved : Keeps s.active s.live
      (onManagement (fun m => { m with saving := none, storeInvalid := (firstDisagreement s).isSome }) s.live) :=
    (Keeps.refl ..).onManagement (by exact id)
  have settled (m : Live) (h : Keeps s.active s.live m) :
      Keeps s.active s.live (settleCheck (if m.part.settleRequest then enterSettling s.active m else m)) := by
    split
    · exact (h.enterSettling _).settleCheck
    · exact h.settleCheck
  unfold Machine.readBackEnds finishSave
  split
  · refine (StateKeeps.refl s).onLive (settled _ ?_)
    split
    · exact saved.latch ..
    · exact saved.latch ..
  · exact .refl s

protected theorem protectWritten (s : State) : StateKeeps s (protectWritten s) := by
  have finished (code : Byte) (set : BitVec 4) : StateKeeps s (finishProtect code set s) := by
    unfold finishProtect
    refine StateKeeps.answer ?_ ..
    exact (StateKeeps.refl s).managedOnly rfl (by exact id) rfl rfl rfl
  unfold Machine.protectWritten
  split
  · exact finished ..
  · exact finished ..
  · exact .refl s

/-! ### Port and timer events -/

theorem transmissionFails_keeps (img : Bank) (noAck : Bool) (l : Live) : Keeps img l (transmissionFails noAck l) := by
  have counted (i : Fin 7) : Keeps img l { l with port := { l.port.onPlace i Place.unsent with
      txErrors := errorsAfter l.port noAck } } := by
    refine (Keeps.refl ..).withPort fun port => ?_
    have ⟨queue, dropped, sent, received⟩ := (Port.inRange_iff _).mp port
    refine (Port.inRange_iff _).mpr ⟨queue, dropped, ?_, received⟩
    dsimp only [errorsAfter, raisedTxErrors]
    repeat' split
    all_goals omega
  unfold transmissionFails
  dsimp only
  repeat' split
  · exact .refl ..
  · exact (counted _).latch ..
  · exact counted _

theorem startTransmission_inRange {p : Port} (h : p.inRange = true) : (startTransmission p).inRange = true := by
  unfold startTransmission
  repeat' split
  all_goals exact h

theorem arbitrationFails_inRange {p : Port} (h : p.inRange = true) : (arbitrationFails p).inRange = true := by
  unfold arbitrationFails
  split
  all_goals exact h

theorem receptionFails_inRange {p : Port} (h : p.inRange = true) : (receptionFails p).inRange = true := by
  unfold receptionFails
  split
  · have ⟨queue, dropped, sent, received⟩ := (Port.inRange_iff _).mp h
    exact (Port.inRange_iff _).mpr ⟨queue, dropped, sent, countUp_le received⟩
  · exact h

theorem portRejoins_inRange {p : Port} (h : p.inRange = true) : (portRejoins p).inRange = true := by
  unfold portRejoins
  split
  · have ⟨queue, dropped, _⟩ := (Port.inRange_iff _).mp h
    exact (Port.inRange_iff _).mpr ⟨queue, dropped, Nat.zero_le _, Nat.zero_le _⟩
  · exact h

theorem belief_of_staleDue {img : Bank} {n : Fin 32} {x : Slot} {e : Nat} (due : staleDue img n x = some e) :
    x.belief ≠ .never := by
  unfold staleDue at due
  dsimp only at due
  split at due
  · rename_i fresh
    simp [fresh.1]
  · cases due

theorem belief_of_lapseDue {img : Bank} {n : Fin 32} {x : Slot} {e : Nat} (due : lapseDue img n x = some e) :
    x.belief ≠ .never := by
  unfold lapseDue at due
  dsimp only at due
  split at due
  · rename_i aged
    obtain fresh | stale := aged
    · simp [fresh]
    · simp [stale]
  · cases due

theorem pollExpires_keeps {img : Bank} {s l : Live} (h : Keeps img s l) (r : Role) : Keeps img s (pollExpires img r l) := by
  unfold pollExpires
  split
  · exact h
  · refine Keeps.placeRequest ?_ ..
    exact h.inner rfl (·.updateItem r fun _ => by rfl)

theorem deadlineExpires_keeps {img : Bank} {s l : Live} (h : Keeps img s l) (r : Role) :
    Keeps img s (deadlineExpires img r l) := by
  unfold deadlineExpires
  split
  · exact h.inner (outer_haltItem ..) (·.haltItem ..)
  · exact h

theorem spacingExpires_keeps {img : Bank} {s l : Live} (h : Keeps img s l) : Keeps img s (spacingExpires l) := by
  have cleared : Keeps img s { l with events := { l.events with spacingHold := none } } := h.withEvents _
  unfold spacingExpires
  dsimp only
  split
  · exact cleared.placeStatusE
  · exact cleared

theorem rollcallTimerExpires_keeps (img : Bank) (l : Live) : Keeps img l (rollcallTimerExpires img l) := by
  unfold rollcallTimerExpires rollcallDue
  dsimp only
  repeat' split
  · exact (Keeps.onLinkBlock ((Keeps.refl img l).advanceTo _) (by exact id)).startSeries
  · exact Keeps.onLinkBlock ((Keeps.refl img l).advanceTo _) (by exact id)
  · exact .refl ..

theorem probeTimerExpires_keeps (img : Bank) (l : Live) : Keeps img l (probeTimerExpires l) := by
  unfold probeTimerExpires
  split
  · exact (Keeps.onLinkBlock ((Keeps.refl img l).advanceTo _) (by exact id)).placeProbes _
  · exact .refl ..

theorem retryTimerExpires_keeps (img : Bank) (l : Live) : Keeps img l (retryTimerExpires l) := by
  unfold retryTimerExpires
  split
  · exact ((Keeps.refl img l).advanceTo _).onLinkBlock (by exact id)
  · exact .refl ..

end StateKeeps

open StateKeeps in
/-- Every command keeps the five forms. -/
theorem exec_keeps (c : Instr) {s t : State} (ht : exec c s = .next t) : StateKeeps s t := by
  cases hr : requestOf c with
  | some r =>
    obtain rfl := eq_commandOf hr
    rw [exec_commandOf] at ht
    cases ht
    exact .carryOut r s
  | none =>
    have self := Keeps.refl s.active s.live
    cases c
    case powerOn =>
      cases ht
      split
      · exact .refl s
      · exact .startPart ..
    case resetPinAssert =>
      cases ht
      split
      · exact .refl s
      · exact .holdReset s
    case resetPinRelease =>
      cases ht
      split
      · exact .startPart ..
      · exact .refl s
    case restartDelayExpiry =>
      cases ht
      split
      · exact .refl s
      · exact .startPart ..
    case portJoin => cases ht; exact .running s (self.withPort (by exact id))
    case frameArrival =>
      cases ht
      split
      · exact .refl s
      · exact .receiveFrame ..
    case receiveError => cases ht; exact .running s (self.withPort receptionFails_inRange)
    case transmitStart => cases ht; exact .running s (self.withPort startTransmission_inRange)
    case transmitSuccess =>
      cases ht
      split
      · exact .refl s
      · exact .transmissionDone s
    case arbitrationLost => cases ht; exact .running s (self.withPort arbitrationFails_inRange)
    case transmitError => cases ht; exact .running s (transmissionFails_keeps ..)
    case portRejoin => cases ht; exact .running s (self.withPort portRejoins_inRange)
    case scanFrame => cases ht; exact .running s self.scanHead.settleCheck
    case slotStaleExpiry n =>
      cases ht
      exact .running s (self.onExpiry _ fun e due => (self.advanceTo e).staleExpires n (belief_of_staleDue due))
    case slotLapseExpiry n =>
      cases ht
      exact .running s (self.onExpiry _ fun e due => (self.advanceTo e).lapseExpires n (belief_of_lapseDue due))
    case riseTimerExpiry =>
      cases ht
      exact .running s (self.onExpiry _ fun e _ => Keeps.evaluate ((self.advanceTo e).withAir (by exact id)) _)
    case unknownTimerExpiry =>
      cases ht
      exact .running s (self.onExpiry _ fun e _ => Keeps.evaluate ((self.advanceTo e).withAir (by exact id)) _)
    case fallTimerExpiry =>
      cases ht
      exact .running s (self.onExpiry _ fun e _ => Keeps.evaluate ((self.advanceTo e).withAir (by exact id)) _)
    case purgeTimerExpiry =>
      cases ht
      exact .running s (self.onExpiry _ fun e _ => Keeps.evaluate ((self.advanceTo e).withAir (by exact id)) _)
    case purgeLimitExpiry =>
      cases ht
      exact .running s (self.onExpiry _ fun e _ => Keeps.evaluate ((self.advanceTo e).withAir (by exact id)) _)
    case boostTailExpiry => cases ht; exact .running s (self.onExpiry _ fun e _ => (self.advanceTo e).boostTailExpires)
    case planPass => cases ht; exact .running s (self.onExpiry _ fun e _ => (self.advanceTo e).planPass)
    case holdOffExpiry r =>
      cases ht
      refine .running s (self.onExpiry _ fun e _ => Keeps.settleCheck ?_)
      exact (self.advanceTo e).inner (outer_offer ..)
        (fun w => (w.updateEntry r (fun _ => by rfl) fun _ => by rfl).offer _)
    case resumeGuardExpiry r =>
      cases ht
      exact .running s (self.onExpiry _ fun e _ => (self.advanceTo e).inner rfl (·.onActuator ..))
    case pollTimerExpiry r => cases ht; exact .running s (self.onExpiry _ fun e _ => pollExpires_keeps (self.advanceTo e) r)
    case moveDeadlineExpiry r =>
      cases ht
      exact .running s (self.onExpiry _ fun e _ => deadlineExpires_keeps (self.advanceTo e) r)
    case linkRequestSent => cases ht; exact .running s self.requestSent
    case replyWindowExpiry =>
      cases ht
      exact .running s (self.onExpiry _ fun e _ => ((self.advanceTo e).windowPasses _).settleCheck)
    case rollcallRoundEnd serial kind => cases ht; exact .running s (self.roundRead _ _ (by omega))
    case rollcallTimerExpiry => cases ht; exact .running s (rollcallTimerExpires_keeps ..)
    case probeTimerExpiry => cases ht; exact .running s (probeTimerExpires_keeps ..)
    case lineStuck => cases ht; exact .running s (self.lineIsStuck _).settleCheck
    case recoveryAttemptEnd => cases ht; exact .running s (self.attemptEnds ..).settleCheck
    case recoveryDelayExpiry =>
      cases ht
      exact .running s (self.onExpiry _ fun e _ => (self.advanceTo e).onLinkBlock (by exact id))
    case failedRetryExpiry => cases ht; exact .running s (retryTimerExpires_keeps ..)
    case unknownRequest data => cases ht; exact .badRequest data s
    case savePageProgrammed =>
      cases ht
      split
      · exact .refl s
      · exact .itemProgrammed ..
    case saveComplete =>
      cases ht
      split
      · exact .refl s
      · exact .readBackEnds s
    case protectWriteDone =>
      cases ht
      split
      · exact .refl s
      · exact .protectWritten s
    case spacingHoldExpiry => cases ht; exact .running s (self.onExpiry _ fun e _ => spacingExpires_keeps (self.advanceTo e))
    case statusTimerExpiry =>
      cases ht
      exact .running s (self.onExpiry _ fun e _ => (self.advanceTo e).placePeriodic.withEvents _)
    case ignitionTimerExpiry =>
      cases ht
      exact .running s (self.onExpiry _ fun e _ =>
        (Keeps.askSettle ((self.advanceTo e).withPart _) _).settleCheck)
    all_goals
      cases hr
    all_goals
      cases ht
      exact .running s (self.takeReply ..).settleCheck

/-- Every step keeps the five forms. -/
theorem step_keeps {s t : State} (ht : step s = .next t) : StateKeeps s t := by
  cases waiting : s.pending with
  | nil =>
    simp only [step, waiting] at ht
    cases ht
    exact (StateKeeps.refl s).onLive (f := fun l => { l with now := l.now + 1 })
      ((Keeps.refl ..).blocks id id id id rfl id id)
  | cons c rest =>
    rw [step_of_pending s c rest waiting] at ht
    have kept := exec_keeps c ht
    exact ⟨kept.images, kept.counters, kept.targets, kept.works, kept.directory⟩

/-- Settles O54. -/
theorem everyStepKeepsTheImagesInForm : Obligations.EveryStepKeepsTheImagesInForm :=
  fun _ _ form ht => (step_keeps ht).images form

/-- Settles O55. -/
theorem everyStepKeepsTheCountersInForm : Obligations.EveryStepKeepsTheCountersInForm :=
  fun _ _ form ht => (step_keeps ht).counters form

/-- Settles O56. -/
theorem everyStepKeepsTheTargetsOfTheMode : Obligations.EveryStepKeepsTheTargetsOfTheMode :=
  fun _ _ form ht => (step_keeps ht).targets form

/-- Settles O57: the collections in form hold no actuator twice, and there are 20. -/
theorem everyStepKeepsTheMoveQueueInOrder : Obligations.EveryStepKeepsTheMoveQueueInOrder := by
  refine ⟨fun _ _ form ht => (step_keeps ht).works form, fun s form => ?_⟩
  have distinct := (s.queueWf_iff.mp form).distinct
  have bound := distinct.length_le_of_subset fun r _ => List.mem_finRange r
  simp only [Sequencer.workers, List.length_append, List.length_map, List.length_finRange] at bound
  omega

/-- Settles O58: the addresses of a directory in form are distinct and from 1 to 16. -/
theorem everyStepKeepsTheDirectoryInForm : Obligations.EveryStepKeepsTheDirectoryInForm := by
  refine ⟨fun _ _ form ht => (step_keeps ht).directory form, fun s form => ?_⟩
  obtain ⟨nodes, addresses, -⟩ := s.directoryWf_iff.mp form
  have inside : s.live.link.directory.map (·.address) ⊆ List.range' 1 16 := by
    intro a ha
    obtain ⟨n, hn, rfl⟩ := List.mem_map.mp ha
    obtain ⟨-, -, a0, a1, -⟩ := n.inForm_iff.mp (nodes n hn)
    simp only [List.mem_range'_1]
    omega
  have bound := addresses.length_le_of_subset inside
  rwa [List.length_map, List.length_range'] at bound

/-- Settles O60: the forms are evaluated on the reset state. -/
theorem resetMeetsTheInvariants : Obligations.ResetMeetsTheInvariants := by
  unfold Obligations.ResetMeetsTheInvariants
  decide

end Sys2Proof.Machine


/-! The start of the part (R180): what it takes from the store, and the start-up values it leaves. -/

namespace Sys2Proof.Machine

/-- Settles O1. -/
theorem stepRunsTheFrontCommand : Obligations.StepRunsTheFrontCommand := by
  refine ⟨fun c rest s => step_of_pending _ c rest rfl, fun s empty => ?_⟩
  obtain ⟨pending, straps, active, loading, store, cuts, live⟩ := s
  cases empty
  rfl

/-! ### What a start takes from the store -/

theorem exec_of_startCause {c : Instr} {s : State} {cause : StartCause} (h : startCause c s = some cause) :
    exec c s = .next (startPart cause s) := by
  cases c
  case powerOn =>
    simp only [startCause, Option.ite_none_left_eq_some, Option.some.injEq] at h
    obtain ⟨free, rfl⟩ := h
    exact congrArg _ (if_neg free)
  case resetPinRelease =>
    simp only [startCause, Option.ite_none_right_eq_some, Option.some.injEq] at h
    obtain ⟨held, rfl⟩ := h
    exact congrArg _ (if_pos held)
  case restartDelayExpiry =>
    simp only [startCause, Option.ite_none_left_eq_some, Option.some.injEq] at h
    obtain ⟨due, rfl⟩ := h
    exact congrArg _ (if_neg due)
  case transmitSuccess =>
    simp only [startCause, Option.ite_none_left_eq_some] at h
    obtain ⟨free, h⟩ := h
    split at h
    · rename_i i sending
      simp only [Option.ite_none_right_eq_some, Option.some.injEq] at h
      obtain ⟨sent, rfl⟩ := h
      refine congrArg _ ((if_neg free).trans ?_)
      simp [transmissionDone, sending, sent]
    · cases h
  all_goals cases h

theorem cutOff_store (s : State) :
    (cutOff s).store.image = s.store.image ∧
      (cutOff s).store.check = (if s.live.management.saving = none then s.store.check else none) ∧
      ((cutOff s).store.protectSet = s.store.protectSet ∨
        s.live.management.inProgress = some (.protect (cutOff s).store.protectSet) ∨
        s.live.management.inProgress = some (.unprotect (cutOff s).store.protectSet)) := by
  unfold cutOff cutStoreWord
  cases saving : s.live.management.saving <;> cases progress : s.live.management.inProgress with
  | none => simp [saving]
  | some p =>
    cases written : Config.storeWordWritten s.cuts <;> cases p <;> simp [saving]

theorem cutOff_straps (s : State) : (cutOff s).straps = s.straps := (cutOff_leaves s).straps

theorem storeGood_cutOff (s : State) : storeGood (cutOff s).store = s.startGood := by
  obtain ⟨image, check, -⟩ := cutOff_store s
  unfold storeGood State.startGood storeGood
  rw [image, check]
  cases s.live.management.saving <;> simp

theorem startGood_iff (s : State) :
    s.startGood = true ↔ s.live.management.saving = none ∧
      s.store.check = some (bankCheck s.store.image) ∧ firstInvalid s.store.image = none := by
  simp [State.startGood, storeGood, imageValid]

theorem startPart_eq (cause : StartCause) (s : State) :
    startPart cause s = startWith (if s.startGood then s.store.image else []) cause
      (if s.startGood then (cutOff s).store.protectSet else 0) (!s.startGood) (cutOff s) := by
  unfold startPart
  simp only [storeGood_cutOff, (cutOff_store s).1]
  cases s.startGood <;> rfl

/-! ### The start-up values -/

/-- What the start-up values become where STORE_INVALID is latched: the latch, its STATUS_E and the spacing hold. -/
def withStoreInvalid (l : Live) : Live :=
  { l with
    port := { l.port with
      places := (l.port.places.set 2
        (.ready { ident := 0x5F0 + l.port.unit.toNat, data := [0x00, 0x00, 0x20, 0x81, 0x00] })) }
    events := { l.events with latched := l.events.latched.set 21 (some 0), spacingHold := some 100 } }

/-- The first series with the reset form of ROLLCALL on the link. -/
def withFirstSeries (l : Live) : Live :=
  { l with link := { l.link with
      onLink := some { owner := .rollcall, address := 0, command := .rollcall true, cls := .rollcall, joined := 0 }
      series := some { winner := none, failedBinds := [] }, resetOwed := false } }

theorem latch_asking {k : Kind} {l : Live} (parameter : Nat) (newly : l.events.latched.get k = none)
    (unmasked : l.events.mask.getLsbD k.val = false) :
    latch k parameter l =
      askStatusE { l with events := { l.events with latched := l.events.latched.set k (some parameter) } } :=
  if_pos ⟨by simp [newly], unmasked⟩

theorem askStatusE_placing {l : Live} (awake : l.part.state ≠ .watch) (free : l.events.spacingHold = none) :
    askStatusE l = placeStatusE l :=
  if_neg (by simp [awake, free])

theorem placeStatusE_of_sets {l : Live} {latched present : Nat} (hl : l.events.latchedSet = latched)
    (hp : presentSet l = present) :
    placeStatusE l =
      { l with
        port := l.port.onPlace 2
          (Place.put { ident := 0x5F0 + l.port.unit.toNat, data := bytesLE latched 3 ++ bytesLE present 2 })
        events := { l.events with owed := false, spacingHold := some (l.now + spacing) } } := by
  subst hl hp
  rfl

theorem latch_storeInvalid_startValues (img : Bank) (cause : StartCause) (straps : Straps) (set : BitVec 4) :
    latch kStoreInvalid 0 (startValues img cause straps set true) =
      withStoreInvalid (startValues img cause straps set true) := by
  rw [latch_asking 0 (by rfl) (by simp [startValues, Events.initial]),
    askStatusE_placing (by exact PartState.noConfusion) (by rfl)]
  refine (placeStatusE_of_sets (latched := 0x200000) (present := 0x81) ?_ ?_).trans ?_
  · rfl
  · simp [presentSet, startValues, Air.initial, Planner.initial, Zone.initial, Budget.initial, Link.initial,
      Port.initial, Port.state, Management.initial, flagsToNat, flag]
  · rfl

theorem startSequence_startValues (img : Bank) (cause : StartCause) (straps : Straps) (set : BitVec 4) (invalid : Bool) :
    startSequence invalid (startValues img cause straps set invalid) =
      withFirstSeries (if invalid then withStoreInvalid (startValues img cause straps set invalid)
        else startValues img cause straps set invalid) := by
  cases invalid with
  | false => rfl
  | true =>
    unfold startSequence
    rw [if_pos rfl, if_pos rfl, latch_storeInvalid_startValues]
    rfl

/-- The live part after a start, from the image and the protect set loaded. -/
theorem startPart_live (cause : StartCause) (s : State) :
    (startPart cause s).live =
      let img := if s.startGood then s.store.image else []
      let set := if s.startGood then (cutOff s).store.protectSet else 0
      let l := startValues img cause s.straps set (!s.startGood)
      withFirstSeries (if s.startGood then l else withStoreInvalid l) := by
  rw [startPart_eq]
  simp only [startWith, startSequence_startValues, cutOff_straps]
  cases s.startGood <;> rfl

/-- Settles O3: a start is a cut-off, then a load of the store or of the default image. -/
theorem startLoadsTheStoreOrTheDefaultImage : Obligations.StartLoadsTheStoreOrTheDefaultImage := by
  intro c s cause starts
  refine ⟨_, exec_of_startCause starts, startGood_iff s, ?_⟩
  obtain ⟨image, check, set⟩ := cutOff_store s
  have live := startPart_live cause s
  rw [startPart_eq] at live ⊢
  refine ⟨rfl, rfl, image, check, set, ?_, ?_⟩
  all_goals
    rw [live]
    cases s.startGood <;> rfl

/-- Settles O4: the start-up values, with what STORE_INVALID and the first series add to them. -/
theorem startValuesOfEveryBlock : Obligations.StartValuesOfEveryBlock := by
  have values {c : Instr} {s t : State} {cause : StartCause} (starts : startCause c s = some cause)
      (ht : exec c s = .next t) : t = startPart cause s ∧ (startPart cause s).active = if s.startGood then s.store.image else [] := by
    rw [exec_of_startCause starts] at ht
    cases ht
    exact ⟨rfl, by rw [startPart_eq]; rfl⟩
  refine ⟨fun c s t cause starts ht => ?_, fun c s t cause starts ht => ?_, fun c s t cause starts ht => ?_⟩
  all_goals
    obtain ⟨rfl, active⟩ := values starts ht
    rw [active, startPart_live]
  · cases s.startGood <;>
      exact ⟨rfl, rfl, rfl, rfl, rfl, rfl, rfl, rfl, rfl, fun n => get_ofFn ..⟩
  · cases s.startGood <;> exact ⟨rfl, rfl, rfl⟩
  · cases s.startGood <;> exact ⟨rfl, rfl, rfl, rfl, rfl, rfl, rfl⟩

/-! ### The reset pin -/

theorem Place.isSending_unsent (p : Place) : p.unsent.isSending = false := by
  cases p with
  | sending _ successor => cases successor <;> rfl
  | empty => rfl
  | ready _ => rfl

theorem cutOff_live (s : State) :
    (cutOff s).live = { s.live with management := { s.live.management with inProgress := none, saving := none } } := by
  unfold cutOff cutStoreWord
  dsimp only
  repeat' split
  all_goals rfl

theorem takeRequest_idle {s : State} (h : s.held = true ∨ s.live.port.onBus = false) (body : State → State) :
    takeRequest body s = s :=
  if_pos h

/-- Every request is taken by one rule (R158), so a part that takes none is left as it is. -/
theorem carryOut_idle {s : State} (h : s.held = true ∨ s.live.port.onBus = false) (r : Request) : carryOut r s = s := by
  cases r <;> exact takeRequest_idle h _

theorem exec_commandOf_idle {s : State} (h : s.held = true ∨ s.live.port.onBus = false) (r : Request) :
    exec (commandOf r) s = .next s := by
  rw [exec_commandOf, carryOut_idle h]

theorem exec_unknownRequest_idle {s : State} (h : s.held = true ∨ s.live.port.onBus = false) (data : List Byte) :
    exec (.unknownRequest data) s = .next s :=
  congrArg _ (takeRequest_idle h _)

/-- A part held in reset takes no command but the pin's release. -/
theorem exec_of_held {c : Instr} {s : State} (held : s.held = true) (other : c ≠ .resetPinRelease) : exec c s = .next s := by
  have live (f : Live → Live) (h : exec c s = .next (s.running f)) : exec c s = .next s := by
    rw [h, s.running_held f held]
  cases hr : requestOf c with
  | some r =>
    obtain rfl := eq_commandOf hr
    exact exec_commandOf_idle (.inl held) r
  | none =>
    cases c
    case resetPinRelease => exact absurd rfl other
    case unknownRequest data => exact exec_unknownRequest_idle (.inl held) data
    case powerOn | resetPinAssert | frameArrival | transmitSuccess | savePageProgrammed | saveComplete
      | protectWriteDone => exact congrArg _ (if_pos held)
    case restartDelayExpiry => exact congrArg _ (if_pos (.inl held))
    all_goals
      cases hr
    all_goals
      exact live _ rfl

/-- Settles O5. -/
theorem resetPinHoldsThePart : Obligations.ResetPinHoldsThePart := by
  refine ⟨fun s free => ⟨holdReset s, congrArg _ (if_neg (by simp [free])), ?_⟩, fun c s held other =>
    exec_of_held held other⟩
  have leaves := cutOff_leaves s
  refine ⟨rfl, ?_, ?_, rfl, rfl, rfl, fun i => ?_, ?_, ?_, ?_, ?_, ?_, ?_, ?_, ?_⟩
  all_goals simp [holdReset, cutOff_live, Place.isSending_unsent]
  · exact leaves.active False.elim
  · exact leaves.loading False.elim

end Sys2Proof.Machine


/-! The request frames (R185): the decoder reads back what the encoder wrote, and reads only what a frame can carry. -/

namespace Sys2Proof.Machine

open RequestFrame

/-! ### The numbers in a request frame -/

theorem toNat_byte {n : Nat} (h : isByte n = true) : (byte n).toNat = n :=
  Nat.mod_eq_of_lt (of_decide_eq_true h)

theorem isByte_toNat (v : Byte) : isByte v.toNat = true := decide_eq_true v.isLt

theorem word_bytes {n : Nat} (h : isWord n = true) : word (byte (n % 256)) (byte (n / 256 % 256)) = n := by
  have := of_decide_eq_true h
  simp only [word, byte, BitVec.toNat_ofNat]
  omega

theorem isWord_word (lo hi : Byte) : isWord (word lo hi) = true := by
  have := lo.isLt
  have := hi.isLt
  exact decide_eq_true (by unfold word; omega)

theorem signedWord_bytes {x : Int} (h : isSignedWord x = true) :
    signedWord (byte (code16 x % 256)) (byte (code16 x / 256 % 256)) = x := by
  obtain ⟨low, high⟩ := (Bool.and_eq_true ..).mp h
  have := of_decide_eq_true low
  have := of_decide_eq_true high
  have word_eq := word_bytes (n := code16 x) (decide_eq_true (by unfold code16; omega))
  unfold signedWord
  rw [word_eq]
  unfold code16
  split <;> omega

theorem isSignedWord_signedWord (lo hi : Byte) : isSignedWord (signedWord lo hi) = true := by
  have := of_decide_eq_true (isWord_word lo hi)
  unfold isSignedWord signedWord
  split <;> simp <;> omega

theorem isByte_part (rest : List Byte) : isByte (part rest) = true := by
  cases rest with
  | nil => rfl
  | cons p _ => exact isByte_toNat p

theorem toNat_append_byte {w : Nat} (x : BitVec w) (y : Byte) : (x ++ y).toNat = x.toNat * 2 ^ 8 + y.toNat := by
  rw [BitVec.toNat_append, ← Nat.shiftLeft_add_eq_or_of_lt y.isLt, Nat.shiftLeft_eq]

theorem toNat_set32 (a b c d : Byte) :
    (set32 a b c d).toNat = a.toNat + 256 * b.toNat + 65536 * c.toNat + 16777216 * d.toNat := by
  simp only [set32, toNat_append_byte]
  omega

theorem set32_bytes (k : BitVec 32) :
    set32 (byte (k.toNat % 65536 % 256)) (byte (k.toNat % 65536 / 256 % 256)) (byte (k.toNat / 65536 % 65536 % 256))
      (byte (k.toNat / 65536 % 65536 / 256 % 256)) = k := by
  apply BitVec.eq_of_toNat_eq
  have := k.isLt
  simp only [toNat_set32, byte, BitVec.toNat_ofNat]
  omega

/-! ### The counted data -/

theorem counted_of_ok {max count : Nat} {data : List Byte} (h : countedOk max count data = true) :
    counted max count data = some data := by
  unfold countedOk at h
  unfold counted
  split at h
  · rename_i out
    rw [if_pos out, beq_iff_eq.mp h]
  · rename_i inside
    have len := beq_iff_eq.mp h
    rw [if_neg inside, if_neg (by omega), ← len, List.take_length]

theorem length_le_of_countedOk {max count : Nat} {data : List Byte} (h : countedOk max count data = true) :
    data.length ≤ max := by
  unfold countedOk at h
  split at h
  · simp [beq_iff_eq.mp h]
  · have := beq_iff_eq.mp h
    omega

theorem countedOk_of_counted {max count : Nat} {data read : List Byte} (h : counted max count data = some read) :
    countedOk max count read = true := by
  unfold counted at h
  unfold countedOk
  split at h
  · cases h
    simp_all
  · split at h
    · cases h
    · cases h
      simp_all

/-! ### Decoding -/

theorem decodeRequest_encodeRequest {r : Request} (h : r.wf = true) : decodeRequest (encodeRequest r) = some r := by
  cases r
  case identify | copyActive | checkPending | save | clearMarked | clearCounters | sleep | restart => rfl
  case loadData count data =>
    obtain ⟨hc, hd⟩ := (Bool.and_eq_true ..).mp h
    change (counted 6 (byte count).toNat data).map (Request.loadData (byte count).toNat) = _
    rw [toNat_byte hc, counted_of_ok hd]
    rfl
  case windowPut offset count data =>
    simp only [Request.wf, Bool.and_eq_true] at h
    obtain ⟨⟨ho, hc⟩, hd⟩ := h
    change (counted 5 (byte count).toNat data).map (Request.windowPut (byte offset).toNat (byte count).toNat) = _
    rw [toNat_byte ho, toNat_byte hc, counted_of_ok hd]
    rfl
  case clearEvents kinds | setEventMask kinds => exact congrArg _ (congrArg _ (set32_bytes kinds))
  all_goals
    simp only [Request.wf, Bool.and_eq_true] at h
    change some _ = some _
    simp only [part, toNat_byte, word_bytes, signedWord_bytes, h]

theorem encodeRequest_length {r : Request} (h : r.wf = true) :
    1 ≤ (encodeRequest r).length ∧ (encodeRequest r).length ≤ 8 := by
  cases r
  case loadData count data =>
    have := length_le_of_countedOk ((Bool.and_eq_true ..).mp h).2
    simp only [encodeRequest, List.length_cons]
    omega
  case windowPut offset count data =>
    have := length_le_of_countedOk ((Bool.and_eq_true ..).mp h).2
    simp only [encodeRequest, List.length_cons]
    omega
  all_goals simp [encodeRequest, bytes16, bytes32]

theorem wf_of_decodeRequest {data : List Byte} {r : Request} (h : decodeRequest data = some r) : r.wf = true := by
  unfold decodeRequest at h
  split at h
  · cases h
  · split at h
    case h_11 | h_25 =>
      obtain ⟨read, hread, rfl⟩ := Option.map_eq_some_iff.mp h
      simp [Request.wf, isByte_toNat, countedOk_of_counted hread]
    all_goals
      cases h
    all_goals
      simp [Request.wf, isByte_toNat, isByte_part, isWord_word, isSignedWord_signedWord]

/-- Settles O9. -/
theorem requestFramesDecodeToTheirRequests : Obligations.RequestFramesDecodeToTheirRequests :=
  ⟨fun _ h => ⟨decodeRequest_encodeRequest h, encodeRequest_length h⟩, fun _ _ h => wf_of_decodeRequest h⟩

/-! ### The port's own events -/

theorem readyPlace_of_least {p : Port} {i : Fin 7} {f : TxFrame} (ready : p.places.get i = .ready f)
    (least : ∀ j : Fin 7, j < i → (p.places.get j).isReady = false) : p.readyPlace = some i :=
  find?_eq_some_of_least (List.pairwise_lt_finRange 7) (List.mem_finRange i) (by simp [ready, Place.isReady])
    fun j _ lt => by simp [least j lt]

theorem readyPlace_of_none {p : Port} (none_ready : ∀ j : Fin 7, (p.places.get j).isReady = false) :
    p.readyPlace = none :=
  List.find?_eq_none.mpr fun j _ => by simp [none_ready j]

theorem startTransmission_of_ready {p : Port} {i : Fin 7} (onBus : p.onBus = true) (free : p.sendingPlace = none)
    (ready : p.readyPlace = some i) : startTransmission p = p.onPlace i Place.begin := by
  simp [startTransmission, onBus, free, ready]

theorem startTransmission_of_idle {p : Port}
    (idle : p.onBus = false ∨ p.sendingPlace ≠ none ∨ p.readyPlace = none) : startTransmission p = p := by
  unfold startTransmission
  split
  · rename_i may
    obtain ⟨onBus, free⟩ := may
    obtain off | busy | none_ready := idle
    · simp [off] at onBus
    · exact absurd free busy
    · simp [none_ready]
  · rfl

/-- Settles O7. -/
theorem portStartsCountsJoinsAndRejoins : Obligations.PortStartsCountsJoinsAndRejoins := by
  refine ⟨fun s i f free onBus alone ready least => ?starts, fun s free idle => ?startsNothing, fun u z y => ?idents,
    fun s free => ⟨?errs, ?joins, ?rejoins⟩⟩
  case starts =>
    refine congrArg _ ((s.running_free _ free).trans ?_)
    rw [startTransmission_of_ready onBus alone (readyPlace_of_least ready least), Port.onPlace_of_get ready]
    rfl
  case startsNothing =>
    refine congrArg _ ((s.running_free _ free).trans ?_)
    rw [startTransmission_of_idle (idle.imp_right (·.imp_right readyPlace_of_none))]
  case idents =>
    have := u.isLt
    simp only [replyIdent, statusAIdent, statusEIdent, statusZIdent, Fin.lt_def]
    omega
  case errs =>
    refine congrArg _ ((s.running_free _ free).trans ?_)
    unfold receptionFails
    cases s.live.port.onBus <;> rfl
  case joins => exact congrArg _ (s.running_free _ free)
  case rejoins =>
    refine congrArg _ ((s.running_free _ free).trans ?_)
    unfold portRejoins
    split <;> rfl

end Sys2Proof.Machine


/-! Requests in general (R158): how one is taken in each part state, what is answered while another is in progress, and
how a received frame reaches the unit, the receive queue or WATCH (R1 to R5). -/

namespace Sys2Proof.Machine

/-! ### The entries to WAKING and RUN, seen from the port and the part state -/

theorem onBus_of_core {l m : Live} (h : l.core = m.core) : l.port.onBus = m.port.onBus := by
  simp only [Port.onBus, Port.state, core_joined h, core_txErrors h, core_rxErrors h]

theorem outer_requestRound (reset : Bool) (l : Live) : (requestRound reset l).outer = l.outer := outer_placeRequest ..

/-- The link at the entry to WAKING may send probes and start the series; the part state, the receive queue and the link's
own state stand. -/
theorem linkWakes_kept (l : Live) : (linkWakes l).part = l.part ∧ (linkWakes l).port.rxQueue = l.port.rxQueue ∧
    (linkWakes l).link.state = l.link.state := by
  have started (m : Live) : (startSeries m).part = m.part ∧ (startSeries m).port.rxQueue = m.port.rxQueue ∧
      (startSeries m).link.state = m.link.state := by
    unfold startSeries
    split
    · exact ⟨rfl, rfl, rfl⟩
    · have same := outer_requestRound m.link.resetOwed
        (m.onLinkBlock fun k => { k with series := some { winner := none, failedBinds := [] }, resetOwed := false })
      exact ⟨(outer_part same :), (outer_rxQueue same :), (outer_linkState same :)⟩
  have probed (m : Live) : (beginProbes m).part = m.part ∧ (beginProbes m).port.rxQueue = m.port.rxQueue ∧
      (beginProbes m).link.state = m.link.state := by
    have same := outer_placeProbes .bound (m.onLinkBlock fun k => { k with wake := .probing })
    have placed : _ ∧ _ ∧ _ := ⟨outer_part same, outer_rxQueue same, outer_linkState same⟩
    unfold beginProbes afterProbes
    split
    · obtain ⟨part, queue, link⟩ := started ((placeProbes .bound
        (m.onLinkBlock fun k => { k with wake := .probing })).onLinkBlock fun k => { k with wake := .rolling })
      exact ⟨part.trans placed.1, queue.trans placed.2.1, link.trans placed.2.2⟩
    · exact placed
  unfold linkWakes
  split
  · exact probed l
  · exact ⟨rfl, rfl, rfl⟩
  · exact ⟨rfl, rfl, rfl⟩

theorem enterWaking_kept (img : Bank) (l : Live) : (enterWaking img l).part = { l.part with state := .waking } ∧
    (enterWaking img l).port.rxQueue = l.port.rxQueue ∧ (enterWaking img l).link.state = l.link.state := by
  unfold enterWaking
  dsimp only
  split
  · exact linkWakes_kept (placeStatusE _)
  · exact linkWakes_kept _

theorem startRun_kept (img : Bank) (l : Live) :
    (startRun img l).part.state = .run ∧ (startRun img l).port.rxQueue = l.port.rxQueue := by
  unfold startRun testIgnition
  dsimp only
  split
  · exact ⟨rfl, rfl⟩
  · exact ⟨rfl, rfl⟩

theorem enterRun_kept (img : Bank) (l : Live) :
    (enterRun img l).part.state = .run ∧ (enterRun img l).port.rxQueue = l.port.rxQueue := by
  have same := outer_issueTargets img (startRun img l)
  obtain ⟨state, queue⟩ := startRun_kept img l
  exact ⟨(congrArg Part.state (outer_part same)).trans state, (outer_rxQueue same).trans queue⟩

/-! ### A request taken -/

theorem takeRequest_awake {s : State} (free : s.held = false) (onBus : s.live.port.onBus = true)
    (awake : s.live.part.state ≠ .watch) (body : State → State) :
    takeRequest body s = (body s).onLive (wakeCheck (body s).active) := by
  simp [takeRequest, free, onBus, wakeForRequest, awake]

/-- A request that arrives in WATCH is taken as if the part had entered WAKING before it (R183). -/
theorem takeRequest_watch {s : State} (free : s.held = false) (onBus : s.live.port.onBus = true)
    (watch : s.live.part.state = .watch) (body : State → State) :
    takeRequest body s = takeRequest body (s.onLive (enterWaking s.active)) := by
  obtain ⟨part, -, -⟩ := enterWaking_kept s.active s.live
  have core := core_enterWaking s.active s.live
  have onBus' : (s.onLive (enterWaking s.active)).live.port.onBus = true := (onBus_of_core core).trans onBus
  have free' : (s.onLive (enterWaking s.active)).held = false := (core_resetHeld core).trans free
  have awake' : (s.onLive (enterWaking s.active)).live.part.state ≠ .watch := by
    simp [part]
  rw [takeRequest_awake free' onBus' awake']
  simp [takeRequest, free, onBus, wakeForRequest, watch]

theorem takeRequest_answer {s : State} (free : s.held = false) (onBus : s.live.port.onBus = true)
    (awake : s.live.part.state ≠ .watch) (code : Byte) (result : Nat) (data : List Byte) :
    takeRequest (answer code result data) s =
      if s.live.part.state = .waking ∧ s.live.link.state = .failed
      then (answer code result data s).onLive (enterRun s.active) else answer code result data s := by
  rw [takeRequest_awake free onBus awake]
  split
  · exact congrArg (fun l => { answer code result data s with live := l }) (if_pos ‹_›)
  · exact congrArg (fun l => { answer code result data s with live := l }) (if_neg ‹_›)

/-- Every request is taken by one rule, and refused BUSY by one (R158). -/
theorem carryOut_eq (r : Request) : ∃ body, carryOut r = takeRequest (orBusy (requestCode r) body) := by
  cases r <;> exact ⟨_, rfl⟩

theorem carryOut_busy {s : State} (free : s.held = false) (onBus : s.live.port.onBus = true)
    (awake : s.live.part.state ≠ .watch) (busy : s.live.management.inProgress ≠ none) (r : Request) :
    carryOut r s = takeRequest (answer (requestCode r) rBusy []) s := by
  obtain ⟨body, carried⟩ := carryOut_eq r
  have refused : orBusy (requestCode r) body s = answer (requestCode r) rBusy [] s :=
    if_pos (Option.isSome_iff_ne_none.mpr busy)
  rw [carried, takeRequest_awake free onBus awake, takeRequest_awake free onBus awake, refused]

theorem carryOut_watch {s : State} (free : s.held = false) (onBus : s.live.port.onBus = true)
    (watch : s.live.part.state = .watch) (r : Request) : carryOut r s = carryOut r (s.onLive (enterWaking s.active)) := by
  obtain ⟨body, carried⟩ := carryOut_eq r
  rw [carried, takeRequest_watch free onBus watch]

/-- Settles O10. -/
theorem repliesAndBusyRequests : Obligations.RepliesAndBusyRequests := by
  refine ⟨fun code result data s => ⟨by simp, rfl⟩, fun r s free onBus awake other busy => ?busy,
    fun r s free onBus watch => ?watch, fun data s free onBus watch => ?unknown, fun s free onBus waking failed =>
      ⟨fun data => ?wakingUnknown, fun r busy => ?wakingBusy⟩⟩
  case busy =>
    rw [exec_commandOf, carryOut_busy free onBus awake busy, takeRequest_answer free onBus awake, if_neg other]
    rfl
  case watch =>
    rw [exec_commandOf, exec_commandOf, carryOut_watch free onBus watch]
    rfl
  case unknown => exact congrArg Host.Outcome.next (takeRequest_watch free onBus watch _)
  case wakingUnknown =>
    refine congrArg _ ((takeRequest_answer free onBus (by simp [waking]) ..).trans ?_)
    rw [if_pos ⟨waking, failed⟩]
    rfl
  case wakingBusy =>
    have awake : s.live.part.state ≠ .watch := by simp [waking]
    rw [exec_commandOf, carryOut_busy free onBus awake busy, takeRequest_answer free onBus awake,
      if_pos ⟨waking, failed⟩]
    rfl

/-! ### A frame received -/

/-- The state once a frame has been received without error (R10). -/
def State.hearing (s : State) : State := s.onLive fun l => { l with port := l.port.goodReception }

theorem exec_frameArrival_onBus {s : State} {f : BusFrame} (free : s.held = false) (onBus : s.live.port.onBus = true) :
    exec (.frameArrival f) s = .next (if f.remote then s.hearing else routeFrame (record f) s.hearing) := by
  refine congrArg _ ((if_neg (by simp [free])).trans ?_)
  exact if_pos onBus

theorem exec_frameArrival_data {s : State} {f : BusFrame} (free : s.held = false) (onBus : s.live.port.onBus = true)
    (data : f.remote = false) : exec (.frameArrival f) s = .next (routeFrame (record f) s.hearing) := by
  rw [exec_frameArrival_onBus free onBus, if_neg (by simp [data])]

theorem isRequest_iff (l : Live) (f : RxFrame) :
    isRequest l f = true ↔ f.format = .base ∧ f.ident = 0x5C0 + l.port.unit.toNat := by
  simp [isRequest, requestIdent]

theorem any_allWakePatterns_iff (img : Bank) (f : RxFrame) :
    ((allWakePatterns img).any fun w => w.matches f) = true ↔ ∃ k : Fin 4, (wakePattern img k).matches f = true := by
  simp [allWakePatterns, allZones]

theorem queueFrame_kept (f : RxFrame) (l : Live) :
    (queueFrame f l).port.rxQueue =
        (if l.port.rxQueue.length < 16 then l.port.rxQueue ++ [f] else l.port.rxQueue) ∧
      (queueFrame f l).link.state = l.link.state ∧ (queueFrame f l).slots = l.slots := by
  unfold queueFrame queueRoom
  split
  · exact ⟨rfl, rfl, rfl⟩
  · have same := outer_latch kRxOverflow f.ident
      { l with port := { l.port with rxDropped := countUp l.port.rxDropped 65535 } }
    exact ⟨(outer_rxQueue same :), (outer_linkState same :), (outer_slots same :)⟩

/-- A frame that ends WATCH is queued; the part is then WAKING, or in RUN where the link is FAILED (R5, R156, R183). -/
theorem wake_kept (img : Bank) (f : RxFrame) (l : Live) :
    let woken := wakeCheck img (enterWaking img (queueFrame f l))
    woken.port.rxQueue = (if l.port.rxQueue.length < 16 then l.port.rxQueue ++ [f] else l.port.rxQueue) ∧
      woken.part.state = (if l.link.state = .failed then .run else .waking) ∧ woken.slots = l.slots := by
  obtain ⟨queue, link, slots⟩ := queueFrame_kept f l
  obtain ⟨part, queue', link'⟩ := enterWaking_kept img (queueFrame f l)
  have slots' := core_slots ((core_wakeCheck img _).trans (core_enterWaking img (queueFrame f l)))
  refine ⟨?_, ?_, slots'.trans slots⟩
  · unfold wakeCheck
    split
    · rw [(enterRun_kept ..).2, queue', queue]
    · rw [queue', queue]
  · unfold wakeCheck
    rw [part, link', link]
    by_cases failed : l.link.state = .failed
    · rw [if_pos ⟨rfl, failed⟩, if_pos failed, (enterRun_kept ..).1]
    · rw [if_neg (by simp [failed]), if_neg failed, part]

theorem routeFrame_request {s : State} {f : RxFrame} (request : isRequest s.live f = true) :
    routeFrame f s = takeFrame f.data s := if_pos request

theorem routeFrame_awake {s : State} {f : RxFrame} (other : ¬isRequest s.live f = true)
    (awake : s.live.part.state ≠ .watch) : routeFrame f s = s.onLive (queueFrame f) :=
  (if_neg other).trans (if_neg awake)

theorem routeFrame_watch {s : State} {f : RxFrame} (other : ¬isRequest s.live f = true)
    (watch : s.live.part.state = .watch) : routeFrame f s = s.onLive (wakeFilter s.active f) :=
  (if_neg other).trans (if_pos watch)

theorem wakeFilter_none {img : Bank} {f : RxFrame} (foreign : ∀ k : Fin 4, (wakePattern img k).matches f = false)
    (l : Live) : wakeFilter img f l = l :=
  if_neg fun some_match => by
    obtain ⟨k, known⟩ := (any_allWakePatterns_iff img f).mp some_match
    simp [foreign k] at known

theorem wakeFilter_some {img : Bank} {f : RxFrame} (known : ∃ k : Fin 4, (wakePattern img k).matches f = true)
    (l : Live) : wakeFilter img f l = wakeCheck img (enterWaking img (queueFrame f l)) :=
  if_pos ((any_allWakePatterns_iff img f).mpr known)

/-- Settles O8: a frame is routed by its form and identifier, the part state and the wake patterns. -/
theorem framesAreRoutedAtTheirArrival : Obligations.FramesAreRoutedAtTheirArrival := by
  refine ⟨fun s f free => ⟨fun off => ?off, fun onBus => ⟨fun remote => ?remote, fun data other => ?data⟩⟩,
    fun s data free onBus short => ?request, fun s data free onBus awake other => ?unknown,
    fun s r data _ off => ⟨exec_commandOf_idle (.inr off) r, exec_unknownRequest_idle (.inr off) data⟩⟩
  case off =>
    refine congrArg _ ((if_neg (by simp [free])).trans ?_)
    exact if_neg (by simp [off])
  case remote =>
    rw [exec_frameArrival_onBus free onBus]
    exact congrArg _ (if_pos remote)
  case data =>
    have notRequest : ¬isRequest s.hearing.live (record f) = true := fun is => other ((isRequest_iff _ (record f)).mp is)
    rw [exec_frameArrival_data free onBus data]
    refine ⟨fun awake => ?_, fun watch foreign => ?_, fun watch known => ⟨_, rfl, ?_⟩⟩
    · rw [routeFrame_awake notRequest (show s.hearing.live.part.state ≠ .watch from awake)]
      rfl
    · rw [routeFrame_watch notRequest (show s.hearing.live.part.state = .watch from watch), State.onLive,
        wakeFilter_none (show ∀ k, (wakePattern s.hearing.active k).matches (record f) = false from foreign)]
      rfl
    · rw [routeFrame_watch notRequest (show s.hearing.live.part.state = .watch from watch), State.onLive,
        wakeFilter_some (show ∃ k, (wakePattern s.hearing.active k).matches (record f) = true from known)]
      obtain ⟨queue, part, slots⟩ := wake_kept s.hearing.active (record f) s.hearing.live
      exact ⟨queue, part, slots, rfl, rfl, rfl⟩
  case request =>
    intro f heard
    have whole : (record f).data = data := by
      simp only [record, f, Nat.min_eq_left short, List.take_length]
    have isRequest : isRequest s.hearing.live (record f) = true := (isRequest_iff ..).mpr ⟨rfl, rfl⟩
    rw [exec_frameArrival_data free onBus rfl, routeFrame_request isRequest, whole, takeFrame]
    cases decodeRequest data with
    | some r => exact (exec_commandOf _ _).symm
    | none => rfl
  case unknown =>
    exact congrArg _ ((takeRequest_answer free onBus awake ..).trans (if_neg other))

end Sys2Proof.Machine


/-! The requests that report (R50, R133, R146, R171). -/

namespace Sys2Proof.Machine

theorem slotNumber_val (n : Fin 32) : slotNumber n.val = some n := dif_pos n.isLt
theorem slotNumber_out {n : Nat} (out : 31 < n) : slotNumber n = none := dif_neg (by omega)
theorem roleNumber_val (r : Role) : roleNumber r.val = some r := dif_pos r.isLt
theorem roleNumber_out {n : Nat} (out : 19 < n) : roleNumber n = none := dif_neg (by omega)
theorem isAddress_of_range {a : Nat} (low : 1 ≤ a) (high : a ≤ 16) : isAddress a = true := by simp [isAddress, low, high]
theorem isAddress_out {a : Nat} (out : a = 0 ∨ 16 < a) : isAddress a = false := by
  simp only [isAddress, Bool.and_eq_false_iff, decide_eq_false_iff_not]
  omega

theorem wordOr_eq (o : Option Nat) : wordOr o = bytes16 (o.getD 0xFFFF) := by
  cases o <;> rfl

theorem classByte_eq (t : Option Target) :
    classByte t = byte ((t.map fun t => if t.urgent then 1 else 0).getD 0xFF) := by
  cases t <;> rfl

theorem readSlotBody_out {n part : Nat} (out : 31 < n ∨ 1 < part) (s : State) :
    readSlotBody n part s = answer 0x10 rRange [] s := by
  unfold readSlotBody
  split
  · rfl
  · rename_i m named
    have inside : ¬31 < n := fun far => by simp [slotNumber_out far] at named
    rw [if_neg (by omega), if_neg (by omega)]

theorem readActuatorBody_out {n part : Nat} (out : 19 < n ∨ 1 < part) (s : State) :
    readActuatorBody n part s = answer 0x18 rRange [] s := by
  unfold readActuatorBody
  split
  · rfl
  · rename_i m named
    have inside : ¬19 < n := fun far => by simp [roleNumber_out far] at named
    rw [if_neg (by omega), if_neg (by omega)]

theorem readNodeBody_out {n part : Nat} (out : n = 0 ∨ 16 < n ∨ 1 < part) (s : State) :
    readNodeBody n part s = answer 0x1C rRange [] s := by
  unfold readNodeBody
  split
  · rfl
  · rename_i inside
    have named : ¬(n = 0 ∨ 16 < n) := fun far => inside (by simp [isAddress_out far])
    rw [if_neg (by omega), if_neg (by omega)]

/-- Settles O12: each of the four requests only reports. -/
theorem reportsChangeOnlyTheReply : Obligations.ReportsChangeOnlyTheReply := by
  intro s takes
  have report {code : Byte} {body : State → State} {result : Nat} {data : List Byte}
      (h : body s = answer code result data s) :
      (.next (requestKeeping code body s) : Result) = .next (answer code result data s) :=
    congrArg _ (requestKeeping_report takes code h)
  refine ⟨report rfl, fun n => ⟨report ?_, report ?_⟩, fun r => ⟨report ?_, report ?_⟩, fun address low high =>
    ⟨report ?_, report ?_⟩, fun n part => ⟨fun out => report (readSlotBody_out out s),
    fun out => report (readActuatorBody_out out s), fun out => report (readNodeBody_out out s)⟩⟩
  · simp only [readSlotBody, slotNumber_val]; rfl
  · simp only [readSlotBody, slotNumber_val]; rfl
  · simp only [readActuatorBody, roleNumber_val, actuatorReport0, wordOr_eq]; rfl
  · simp only [readActuatorBody, roleNumber_val, actuatorReport1, wordOr_eq, classByte_eq]; rfl
  · simp only [readNodeBody, isAddress_of_range low high]
    cases s.live.link.nodeAt address <;> rfl
  · simp only [readNodeBody, isAddress_of_range low high]
    cases s.live.link.nodeAt address <;> rfl

end Sys2Proof.Machine


/-! The requests that write PENDING: LOAD_POINT and LOAD_DATA (R162), and the rule-range clear (R166). -/

namespace Sys2Proof.Machine

section Takes

variable {s : State} (takes : s.takes = true)
include takes

theorem request_result (code : Byte) {body : State → State} {t : State} (h : body s = t)
    (part : t.live.part.state = s.live.part.state) (link : t.live.link.state = s.live.link.state) :
    request code body s = resetRange t := by
  subst h
  exact request_of_takes takes code part link

theorem requestKeeping_result (code : Byte) {body : State → State} {t : State} (h : body s = t)
    (part : t.live.part.state = s.live.part.state) (link : t.live.link.state = s.live.link.state) :
    requestKeeping code body s = t := by
  subst h
  exact requestKeeping_of_takes takes code part link

/-- What follows a request's body, the entry to RUN, leaves the rule-range sequence. -/
theorem takeRequest_ruleRange (body : State → State) :
    (takeRequest body s).live.management.ruleRange = (body s).live.management.ruleRange := by
  obtain ⟨free, onBus, awake, -, -⟩ := s.takes_iff.mp takes
  rw [takeRequest_awake free onBus awake]
  exact core_ruleRange (core_wakeCheck ..)

theorem request_ruleRange (code : Byte) (body : State → State) :
    (request code body s).live.management.ruleRange = .idle := by
  rw [request, takeRequest_ruleRange takes, orBusy_of_takes takes]
  rfl

theorem requestKeeping_ruleRange (code : Byte) (body : State → State) :
    (requestKeeping code body s).live.management.ruleRange = (body s).live.management.ruleRange := by
  rw [requestKeeping, takeRequest_ruleRange takes, orBusy_of_takes takes]

end Takes

/-! ### Loading (R162) -/

theorem writeWrapped_offset (page : Nat) (data : List Byte) (b : Bank) {off : Nat} (h : off ≤ 127) :
    (writeWrapped b page off data).2 = (off + data.length) % 128 := by
  induction data generalizing b off with
  | nil => simpa [writeWrapped] using (Nat.mod_eq_of_lt (by omega)).symm
  | cons v rest ih =>
    rw [writeWrapped, ih _ (by omega), List.length_cons]
    omega

/-- A read after LOAD_DATA's writes: the byte at its distance from the offset, and every other byte as before. -/
theorem readByte_writeWrapped {page : Nat} (hp : page ≤ 19) (data : List Byte) {b : Bank} (h : bankWf b = true) {off : Nat}
    (ho : off ≤ 127) (short : data.length ≤ 128) (a : Nat) :
    readByte (writeWrapped b page off data).1 a =
      if a / 128 = page ∧ (a % 128 + 128 - off) % 128 < data.length
      then byteAt data ((a % 128 + 128 - off) % 128) else readByte b a := by
  induction data generalizing b off with
  | nil => simp [writeWrapped]
  | cons v rest ih =>
    have written := writeByte_wf v h (addressOf_lt (off := off) (show page < 20 by omega))
    rw [List.length_cons] at short ⊢
    rw [writeWrapped, ih written (by omega) (by omega), readByte_writeByte h, addressOf, Nat.mod_eq_of_lt (by omega : off < 128)]
    by_cases first : a = 128 * page + off
    · have distance : (a % 128 + 128 - off) % 128 = 0 := by omega
      have behind : (a % 128 + 128 - (off + 1) % 128) % 128 = 127 := by omega
      rw [if_neg (by omega), if_pos first, if_pos (by omega), distance]
      rfl
    · rw [if_neg first]
      by_cases inside : a / 128 = page
      · have next : (a % 128 + 128 - off) % 128 = (a % 128 + 128 - (off + 1) % 128) % 128 + 1 := by omega
        rw [next, byteAt_cons_succ]
        simp only [inside, true_and, Nat.add_lt_add_iff_right]
      · rw [if_neg (by simp [inside]), if_neg (by simp [inside])]

/-- Settles O45. -/
theorem loadRequestsWritePending : Obligations.LoadRequestsWritePending := by
  intro s takes group m guarded pointed
  refine ⟨fun page offset => ?point, fun count data out => ?range, fun count data low high unset => ?sequence,
    fun count data page offset low high set protected' => ?guarded,
    fun count data page offset low high enough set hp ho free wf => ?write⟩
  case point =>
    refine congrArg _ (request_result takes 0x20 (body := loadPointBody page offset) rfl ?_ ?_)
    all_goals
      unfold loadPointBody
      split
      · rfl
      · split <;> rfl
  case range => exact congrArg _ (request_result takes 0x21 (body := loadDataBody count data) (if_pos out) rfl rfl)
  case sequence =>
    have refused : loadDataBody count data s = answer 0x21 9 [] s := by
      refine (if_neg (by omega)).trans ?_
      simp only [show s.live.management.pointer = none from unset]
      rfl
    exact congrArg _ (request_result takes 0x21 refused rfl rfl)
  case guarded =>
    have refused : loadDataBody count data s = answer 0x21 5 [] s := by
      refine (if_neg (by omega)).trans ?_
      simp only [show s.live.management.pointer = some (page, offset) from set]
      exact if_pos protected'
    exact congrArg _ (request_result takes 0x21 refused rfl rfl)
  case write =>
    intro after
    have length : (data.take count).length = count := by simp [enough]
    have after_eq : (writeWrapped s.loading page offset (data.take count)).2 = after := by
      rw [writeWrapped_offset _ _ _ ho, length]
    refine ⟨(writeWrapped s.loading page offset (data.take count)).1, ?_, fun a => ?_⟩
    · have done : loadDataBody count data s = answer 0x21 0 [byte page, byte after]
          { pointed page after with loading := (writeWrapped s.loading page offset (data.take count)).1 } := by
        refine (if_neg (by omega)).trans ?_
        simp only [show s.live.management.pointer = some (page, offset) from set]
        refine (if_neg free).trans ?_
        rw [after_eq]
        rfl
      exact congrArg _ (request_result takes 0x21 done rfl rfl)
    · rw [readByte_writeWrapped hp _ wf ho (by omega), length]
      dsimp only
      split
      · rename_i inside
        exact (by simp [byteAt, List.getD_eq_getElem?_getD, inside.2])
      · rfl

/-! ### The rule-range clear (R166) -/

/-- A read after CLEAR_MARKED's writes. -/
theorem readByte_disableRules (rules : List Nat) {b : Bank} (h : bankWf b = true) (small : ∀ n ∈ rules, n < 160) (a : Nat) :
    readByte (rules.foldl disableRule b) a =
      if a % 16 = 0 ∧ a / 16 ∈ rules then readByte b a &&& 0xFE else readByte b a := by
  induction rules generalizing b with
  | nil => simp
  | cons n rest ih =>
    have hn := small n List.mem_cons_self
    rw [List.foldl_cons, ih (disableRule_wf b n h hn) fun m hm => small m (List.mem_cons_of_mem n hm), disableRule,
      readByte_writeByte h]
    by_cases here : a = 16 * n
    · have zero : a % 16 = 0 := by omega
      have quotient : a / 16 = n := by omega
      subst here
      simp [zero, quotient, BitVec.and_assoc]
    · rw [if_neg here]
      have other : a % 16 = 0 → a / 16 ≠ n := by omega
      by_cases zero : a % 16 = 0
      · simp [zero, other zero]
      · simp [zero]

theorem mem_markedRules (f l : Nat) (kept : List Nat) (n : Nat) :
    n ∈ markedRules f l kept ↔ f ≤ n ∧ n ≤ l ∧ n ∉ kept := by
  simp only [markedRules, List.mem_filter, List.mem_range, Bool.and_eq_true, decide_eq_true_eq, Bool.not_eq_true',
    decide_eq_false_iff_not, Nat.lt_succ_iff]
  exact and_left_comm

theorem markedRules_length (f : Nat) {l : Nat} (hl : l ≤ 95) (kept : List Nat) :
    (markedRules f l kept).length =
      ((List.range 96).filter fun n => decide (f ≤ n ∧ n ≤ l ∧ n ∉ kept)).length := by
  have same : (markedRules f l kept).Perm ((List.range 96).filter fun n => decide (f ≤ n ∧ n ≤ l ∧ n ∉ kept)) := by
    refine (List.perm_ext_iff_of_nodup (List.nodup_range.filter _) (List.nodup_range.filter _)).mpr fun n => ?_
    refine (mem_markedRules f l kept n).trans ?_
    simp only [List.mem_filter, List.mem_range, decide_eq_true_eq]
    exact ⟨fun marked => ⟨by omega, marked⟩, And.right⟩
  exact same.length_eq

/-- Settles O48. -/
theorem ruleRangeFollowsItsTable : Obligations.RuleRangeFollowsItsTable := by
  intro s takes m into refused
  have keeping {code : Byte} {body : State → State} {t : State} (h : body s = t)
      (part : t.live.part.state = s.live.part.state) (link : t.live.link.state = s.live.link.state) :
      (.next (requestKeeping code body s) : Result) = .next t :=
    congrArg _ (requestKeeping_result takes code h part link)
  refine ⟨fun n => ⟨fun h => ?first, fun h => ?firstOut⟩, fun idle => ?idle, fun f first => ?one, fun f l kept range => ?two,
    fun r t ht => ?resets⟩
  case first => exact keeping (if_pos h) rfl rfl
  case firstOut => exact keeping (if_neg (by omega)) rfl rfl
  case idle =>
    have state : s.live.management.ruleRange = .idle := idle
    refine ⟨fun n => ⟨keeping (t := refuseRange 0x31 rSequence s) ?_ rfl rfl,
      keeping (t := refuseRange 0x32 rSequence s) ?_ rfl rfl⟩, keeping (t := refuseRange 0x33 rSequence s) ?_ rfl rfl⟩
    · simp only [markLastBody, state]
    · simp only [keepBody, state]
    · simp only [clearMarkedBody, state]
  case one =>
    have state : s.live.management.ruleRange = .first f := first
    refine ⟨fun n => ⟨fun h => keeping (t := answer 0x31 0 [] (setRange (.range f n []) s)) ?_ rfl rfl,
      fun h => keeping (t := refuseRange 0x31 rRange s) ?_ rfl rfl,
      keeping (t := refuseRange 0x32 rSequence s) ?_ rfl rfl⟩, keeping (t := refuseRange 0x33 rSequence s) ?_ rfl rfl⟩
    · simp only [markLastBody, state, if_pos h]; rfl
    · simp only [markLastBody, state, if_neg (by omega : ¬(f ≤ n ∧ n ≤ 95))]
    · simp only [keepBody, state]
    · simp only [clearMarkedBody, state]
  case two =>
    have state : s.live.management.ruleRange = .range f l kept := range
    refine ⟨fun n => keeping (t := refuseRange 0x31 rSequence s) ?_ rfl rfl, fun n =>
      ⟨fun out => keeping (t := refuseRange 0x32 rRange s) ?_ rfl rfl,
        fun low high old => keeping (t := answer 0x32 0 [] s) ?_ rfl rfl,
        fun low high new full => keeping (t := refuseRange 0x32 rRange s) ?_ rfl rfl,
        fun low high new room => keeping (t := answer 0x32 0 [] (setRange (.range f l (kept ++ [n])) s)) ?_ rfl rfl⟩,
      fun guarded => keeping (t := refuseRange 0x33 rProtected s) ?_ rfl rfl,
      fun free wf hl => ⟨(markedRules f l kept).foldl disableRule s.loading, ?_, fun a => ?_⟩⟩
    · simp only [markLastBody, state]
    · simp only [keepBody, state, if_pos out]
    · simp only [keepBody, state, if_neg (by omega : ¬(n < f ∨ l < n)), if_pos old]; rfl
    · simp only [keepBody, state, if_neg (by omega : ¬(n < f ∨ l < n)), if_neg new]
      exact if_pos full
    · simp only [keepBody, state, if_neg (by omega : ¬(n < f ∨ l < n)), if_neg new]
      exact if_neg (by unfold keepPlaces; omega)
    · simp only [clearMarkedBody, state]
      exact if_pos guarded
    · rw [← markedRules_length f hl]
      refine keeping ?_ rfl rfl
      simp only [clearMarkedBody, state]
      exact if_neg (by simpa [isProtected] using free)
    · rw [readByte_disableRules _ wf fun n hn => by have := (mem_markedRules f l kept n).mp hn; omega]
      simp only [mem_markedRules]
  case resets =>
    rw [exec_commandOf] at ht
    cases ht
    cases r
    case markFirst n => exact .inl (.inl ⟨n, rfl⟩)
    case markLast n => exact .inl (.inr (.inl ⟨n, rfl⟩))
    case keep n => exact .inl (.inr (.inr ⟨n, rfl⟩))
    case identify | checkPending => exact .inr (requestKeeping_ruleRange takes ..)
    case readSlot | readActuator | readNode | readPage | readEvents | readCounters | clearMarked =>
      refine .inr ((requestKeeping_ruleRange takes ..).trans ?_)
      simp only [readSlotBody, readActuatorBody, readNodeBody, readPageBody, readEventsBody, readCountersBody,
        clearMarkedBody]
      repeat' split
      all_goals rfl
    all_goals exact .inr (request_ruleRange takes ..)

end Sys2Proof.Machine


/-! Events and counters (R174, R175, R178): the latches, the mask, and the requests that report and clear. -/

namespace Sys2Proof.Machine

/-! ### Latches -/

theorem latch_quiet {k : Kind} {l : Live} (parameter : Nat)
    (quiet : l.events.latched.get k ≠ none ∨ l.events.mask.getLsbD k.val = true) :
    latch k parameter l = { l with events := { l.events with latched := l.events.latched.set k (some parameter) } } := by
  refine if_neg fun ⟨newly, unmasked⟩ => ?_
  obtain old | masked := quiet
  · exact old (Option.isNone_iff_eq_none.mp newly)
  · exact absurd (masked.symm.trans unmasked) (by decide)

theorem latch_owing {k : Kind} {l : Live} (parameter : Nat) (newly : l.events.latched.get k = none)
    (unmasked : l.events.mask.getLsbD k.val = false) (owed : l.part.state = .watch ∨ l.events.spacingHold ≠ none) :
    latch k parameter l =
      { l with events := { l.events with latched := l.events.latched.set k (some parameter), owed := true } } := by
  rw [latch_asking parameter newly unmasked]
  exact if_pos (owed.imp_right fun held => Option.isSome_iff_ne_none.mpr held)

/-! ### The numbers of kinds, rules and counters -/

theorem kindNumber_val (k : Kind) : kindNumber k.val = some k := dif_pos k.isLt
theorem kindNumber_out {n : Nat} (out : 21 < n) : kindNumber n = none := dif_neg (by omega)

theorem readEventsBody_out {k part : Nat} (out : 21 < k ∨ 1 < part) (s : State) :
    readEventsBody k part s = answer 0x40 rRange [] s := by
  unfold readEventsBody
  split
  · rfl
  · rename_i m named
    have inside : ¬21 < k := fun far => by simp [kindNumber_out far] at named
    rw [if_neg (by omega), if_neg (by omega)]

theorem counterReport_out {group index part : Nat} (out : 3 < group ∨ (group = 0 ∧ 95 < index) ∨
    (group = 1 ∧ 31 < index) ∨ (group = 2 ∧ (index = 0 ∨ 16 < index)) ∨ (group = 3 ∧ index ≠ 0) ∨ 1 < part) (l : Live) :
    counterReport l group index part = none := by
  unfold counterReport
  split
  · rfl
  · split
    · exact dif_neg (by omega)
    · rw [slotCounters, slotNumber_out (by omega)]
      rfl
    · rw [nodeCounters, isAddress_out (by omega)]
      rfl
    · exact if_pos (by omega)
    · rfl

theorem toNat_setWidth_22 {kinds : BitVec 32} (small : kinds.toNat < 2 ^ 22) : (kinds.setWidth 22).toNat = kinds.toNat := by
  rw [BitVec.toNat_setWidth, Nat.mod_eq_of_lt small]

/-- Settles O50. -/
theorem eventAndCounterRequestsFollowTheirRules : Obligations.EventAndCounterRequestsFollowTheirRules := by
  refine ⟨fun k n l => ?latch, fun s takes => ?requests⟩
  case latch =>
    intro e set p
    split
    · exact latch_quiet n ‹_›
    · rename_i asking
      obtain ⟨newly, unmasked⟩ : l.events.latched.get k = none ∧ l.events.mask.getLsbD k.val = false := by
        simpa using asking
      split
      · exact latch_owing n newly unmasked ‹_›
      · rename_i placing
        obtain ⟨awake, free⟩ : l.part.state ≠ .watch ∧ l.events.spacingHold = none := by simpa using placing
        exact (latch_asking n newly unmasked).trans (askStatusE_placing (l := set) awake free)
  case requests =>
    intro l
    have done {code : Byte} {body : State → State} {t : State} (h : body s = t)
        (part : t.live.part.state = s.live.part.state) (link : t.live.link.state = s.live.link.state) :
        (.next (request code body s) : Result) = .next (resetRange t) :=
      congrArg _ (request_result takes code h part link)
    have report {code : Byte} {body : State → State} {result : Nat} {data : List Byte}
        (h : body s = answer code result data s) :
        (.next (requestKeeping code body s) : Result) = .next (answer code result data s) :=
      congrArg _ (requestKeeping_report takes code h)
    have counters {group index part : Nat} {data : List Byte} (h : counterReport s.live group index part = some data) :
        exec (.readCounters group index part) s = .next (answer 0x48 0 data s) :=
      report (by rw [readCountersBody, h]; rfl)
    refine ⟨fun kinds => ⟨fun small => ⟨⟨_, done (if_pos (decide_eq_true small)) rfl rfl, fun k => get_ofFn ..⟩, _,
        done (if_pos (decide_eq_true small)) rfl rfl, toNat_setWidth_22 small⟩, fun big => ?_⟩, fun k => ⟨?_, ?_, ?_⟩,
      fun k part => ⟨fun out => ?_, fun out => report (readEventsBody_out out s)⟩, fun n => counters (dif_pos n.isLt),
      fun n => counters ?_, fun address low high => counters ?_, counters rfl, counters rfl,
      fun group index part out => report ?_, _, _, done rfl rfl rfl, fun n => get_mapAll .., fun n => get_mapAll ..⟩
    · have out : ¬kindsOnly kinds = true := fun only => Nat.not_lt.mpr big (of_decide_eq_true only)
      exact ⟨done (if_neg out) rfl rfl, done (if_neg out) rfl rfl⟩
    · have same := outer_latch k 0 s.live
      refine done (t := answer 0x43 0 [] (s.onLive (latch k 0))) ?_ ?_ ?_
      · rw [forceEventBody, kindNumber_val]; rfl
      · exact congrArg Part.state (outer_part same)
      · exact outer_linkState same
    · exact report (by rw [readEventsBody, kindNumber_val]; rfl)
    · intro small
      refine report ?_
      have bytes : parameterBytes ((l.events.latched.get k).getD 0) = bytes16 ((l.events.latched.get k).getD 0) :=
        congrArg bytes16 (if_pos small)
      rw [← bytes, readEventsBody, kindNumber_val]
      rfl
    · exact done (t := answer 0x43 4 [] s) (by rw [forceEventBody, kindNumber_out out]; rfl) rfl rfl
    · change slotCounters s.live n.val = _
      rw [slotCounters, slotNumber_val]
      rfl
    · change nodeCounters s.live address = _
      rw [nodeCounters, if_pos (isAddress_of_range low high)]
      cases s.live.link.nodeAt address <;> rfl
    · rw [readCountersBody, counterReport_out out]; rfl

end Sys2Proof.Machine


/-! The status frames (R175, R177, R186): when they take their places, and where their fields stand. -/

namespace Sys2Proof.Machine

/-! ### The periodic frames -/

theorem statusZPlace_injective {z y : Fin 4} (h : statusZPlace z = statusZPlace y) : z = y := by
  simpa [statusZPlace, Fin.ext_iff] using h

/-- What the STATUS_Z of a list of zones do to the places: each planned zone's place takes its frame. -/
theorem foldl_placeZones (zs : List (Fin 4)) (distinct : zs.Nodup) (l : Live) :
    ∃ places : Vector Place 7,
      zs.foldl (fun l z =>
        if (l.planner.zones.get z).planned then placeFrame (statusZPlace z) (statusZ z l) l else l) l =
          { l with port := { l.port with places := places } } ∧
      (∀ i : Fin 7, i.val < 3 → places.get i = l.port.places.get i) ∧
      ∀ z : Fin 4, places.get (statusZPlace z) =
        if z ∈ zs ∧ (l.planner.zones.get z).planned then Place.put (statusZ z l) (l.port.places.get (statusZPlace z))
        else l.port.places.get (statusZPlace z) := by
  induction zs generalizing l with
  | nil => exact ⟨l.port.places, rfl, fun _ _ => rfl, fun _ => by simp⟩
  | cons x rest ih =>
    obtain ⟨new, distinct⟩ := List.nodup_cons.mp distinct
    rw [List.foldl_cons]
    by_cases planned : (l.planner.zones.get x).planned = true
    · rw [if_pos planned]
      obtain ⟨places, eq, low, zones⟩ := ih distinct (placeFrame (statusZPlace x) (statusZ x l) l)
      refine ⟨places, eq, fun i hi => (low i hi).trans (updateAt_other _ _ _ _ ?_), fun z => (zones z).trans ?_⟩
      · intro e
        have low : 3 + x.val < 3 := by simpa only [e, statusZPlace] using hi
        omega
      · by_cases here : z = x
        · subst here
          rw [if_neg (by simp [new]), if_pos ⟨List.mem_cons_self, planned⟩]
          exact updateAt_self ..
        · have old : (placeFrame (statusZPlace x) (statusZ x l) l).port.places.get (statusZPlace z) =
              l.port.places.get (statusZPlace z) :=
            updateAt_other _ _ _ _ fun e => here (statusZPlace_injective e)
          rw [old]
          simp only [List.mem_cons, here, false_or]
          rfl
    · rw [if_neg planned]
      obtain ⟨places, eq, low, zones⟩ := ih distinct l
      refine ⟨places, eq, low, fun z => (zones z).trans ?_⟩
      by_cases here : z = x
      · subst here
        rw [if_neg (by simp [new]), if_neg (by simp [planned])]
      · simp only [List.mem_cons, here, false_or]

/-- The places that the periodic frames leave (R177). -/
theorem placePeriodic_eq (l : Live) :
    ∃ places : Vector Place 7,
      placePeriodic l =
        { l with
          port := { l.port with places := places }
          events := { l.events with owed := false, spacingHold := some (l.now + 100) } } ∧
      places.get 0 = l.port.places.get 0 ∧
      places.get 1 = Place.put (statusA l) (l.port.places.get 1) ∧
      places.get 2 = Place.put (statusE l) (l.port.places.get 2) ∧
      ∀ z : Fin 4, places.get (statusZPlace z) =
        if (l.planner.zones.get z).planned then Place.put (statusZ z l) (l.port.places.get (statusZPlace z))
        else l.port.places.get (statusZPlace z) := by
  obtain ⟨places, eq, low, zones⟩ := foldl_placeZones allZones (List.nodup_finRange 4)
    (placeStatusE (placeFrame statusAPlace (statusA l) l))
  have after (i : Fin 7) : (placeStatusE (placeFrame statusAPlace (statusA l) l)).port.places.get i =
      if i = 2 then Place.put (statusE l) (l.port.places.get 2)
      else if i = 1 then Place.put (statusA l) (l.port.places.get 1) else l.port.places.get i := by
    change (updateAt (updateAt l.port.places 1 (Place.put (statusA l))) 2 (Place.put (statusE l))).get i = _
    by_cases two : i = 2
    · subst two
      rw [updateAt_self, updateAt_other _ _ _ _ (by decide), if_pos rfl]
    · rw [updateAt_other _ _ _ _ two, if_neg two]
      by_cases one : i = 1
      · subst one
        rw [updateAt_self, if_pos rfl]
      · rw [updateAt_other _ _ _ _ one, if_neg one]
  refine ⟨places, eq, (low 0 (by decide)).trans (after 0), (low 1 (by decide)).trans (after 1),
    (low 2 (by decide)).trans (after 2), fun z => (zones z).trans ?_⟩
  have above : statusZPlace z ≠ 2 ∧ statusZPlace z ≠ 1 := by
    simp [statusZPlace, Fin.ext_iff]
    omega
  rw [after, if_neg above.1, if_neg above.2]
  simp only [allZones, List.mem_finRange, true_and]
  rfl

/-! ### Fields of a number -/

/-- The bits of a number from a first one on. -/
def bitsFrom (n first width : Nat) : List Bool := (List.range width).map fun i => n.testBit (first + i)

theorem bitsFrom_congr {n m first first' width : Nat}
    (h : ∀ i < width, n.testBit (first + i) = m.testBit (first' + i)) : bitsFrom n first width = bitsFrom m first' width :=
  List.map_congr_left fun i hi => h i (List.mem_range.mp hi)

theorem bitsFrom_zero (first width : Nat) : bitsFrom 0 first width = bitsFrom 0 0 width :=
  bitsFrom_congr fun i _ => by simp

theorem bitsFrom_mod {n k first width : Nat} (h : first + width ≤ k) :
    bitsFrom (n % 2 ^ k) first width = bitsFrom n first width :=
  bitsFrom_congr fun i hi => by simp [Nat.testBit_mod_two_pow, show first + i < k by omega]

theorem testBit_pack (w v rest k : Nat) :
    (v % 2 ^ w + 2 ^ w * rest).testBit k = if k < w then v.testBit k else rest.testBit (k - w) := by
  rw [Nat.add_comm, Nat.testBit_two_pow_mul_add _ (Nat.mod_lt _ (Nat.two_pow_pos w))]
  split
  · rename_i h
    simp [Nat.testBit_mod_two_pow, h]
  · rfl

/-- The first field of packed fields. -/
theorem bitsFrom_packBits_head (w v : Nat) (rest : List (Nat × Nat)) :
    bitsFrom (packBits ((w, v) :: rest)) 0 w = bitsFrom v 0 w :=
  bitsFrom_congr fun i hi => by simp [packBits, testBit_pack, hi]

/-- A field behind the first of packed fields. -/
theorem bitsFrom_packBits_tail (w v : Nat) (rest : List (Nat × Nat)) (first width : Nat) (h : w ≤ first) :
    bitsFrom (packBits ((w, v) :: rest)) first width = bitsFrom (packBits rest) (first - w) width :=
  bitsFrom_congr fun _ _ => by
    rw [packBits, testBit_pack, if_neg (by omega)]
    congr 1
    omega

theorem bitsFrom_packBits_nil (first width : Nat) : bitsFrom (packBits []) first width = bitsFrom 0 0 width :=
  bitsFrom_zero first width

theorem bitsFrom_flag (b : Bool) : bitsFrom (flag b) 0 1 = [b] := by
  cases b <;> rfl

/-! ### Fields of data -/

/-- The bits of a frame's data from a first one on (R22). -/
def dataBits (data : List Byte) (first width : Nat) : List Bool :=
  (List.range width).map fun i => (byteAt data ((first + i) / 8)).getLsbD ((first + i) % 8)

theorem dataBits_eq (data : List Byte) (first width : Nat) :
    dataBits data first width = bitsFrom (dataNumber data) first width :=
  List.map_congr_left fun _ _ => (testBit_dataNumber data _).symm

theorem bytesLE_length (v n : Nat) : (bytesLE v n).length = n := by
  induction n generalizing v with
  | zero => rfl
  | succ n ih => simp [bytesLE, ih]

theorem dataNumber_bytesLE (v n : Nat) : dataNumber (bytesLE v n) = v % 2 ^ (8 * n) := by
  induction n generalizing v with
  | zero => simp [bytesLE, Nat.mod_one]
  | succ n ih =>
    have power : 2 ^ (8 * (n + 1)) = 256 * 2 ^ (8 * n) := by rw [Nat.mul_succ, Nat.add_comm, Nat.pow_add]
    rw [bytesLE, dataNumber_cons, ih, byte, BitVec.toNat_ofNat, power, Nat.mod_mul]
    omega

theorem dataNumber_append (xs ys : List Byte) :
    dataNumber (xs ++ ys) = dataNumber xs + 2 ^ (8 * xs.length) * dataNumber ys := by
  induction xs with
  | nil => simp
  | cons x rest ih =>
    rw [List.cons_append, dataNumber_cons, ih, dataNumber_cons, List.length_cons, Nat.mul_succ, Nat.add_comm _ 8, Nat.pow_add,
      Nat.mul_add, Nat.mul_assoc, Nat.add_assoc]

/-- The bits of a packed frame of `n` bytes. -/
theorem dataBits_bytesLE {v n first width : Nat} (h : first + width ≤ 8 * n) :
    dataBits (bytesLE v n) first width = bitsFrom v first width := by
  rw [dataBits_eq, dataNumber_bytesLE, bitsFrom_mod h]

theorem dataBits_append_left {v n first width : Nat} (ys : List Byte) (h : first + width ≤ 8 * n) :
    dataBits (bytesLE v n ++ ys) first width = bitsFrom v first width := by
  rw [dataBits_eq, dataNumber_append, dataNumber_bytesLE, bytesLE_length]
  exact bitsFrom_congr fun i hi => by rw [testBit_pack, if_pos (by omega)]

theorem dataBits_append_right {v n w m first width : Nat} (hf : 8 * n ≤ first) (h : first + width ≤ 8 * n + 8 * m) :
    dataBits (bytesLE v n ++ bytesLE w m) first width = bitsFrom w (first - 8 * n) width := by
  rw [dataBits_eq, dataNumber_append, dataNumber_bytesLE, bytesLE_length, dataNumber_bytesLE]
  refine (bitsFrom_congr fun _ _ => ?_).trans (bitsFrom_mod (k := 8 * m) (by omega))
  rw [testBit_pack, if_neg (by omega)]
  congr 1
  omega

/-! ### Sets of flags -/

theorem testBit_flagsToNat (bs : List Bool) (k : Nat) : (flagsToNat bs).testBit k = bs.getD k false := by
  induction bs generalizing k with
  | nil => simp [flagsToNat]
  | cons b rest ih =>
    have split := testBit_pack 1 (flag b) (flagsToNat rest) k
    have one : flag b % 2 ^ 1 = flag b := by cases b <;> rfl
    rw [one, Nat.pow_one] at split
    rw [flagsToNat, split]
    cases k with
    | zero => cases b <;> rfl
    | succ k => simpa using ih k

theorem bitsFrom_flagsToNat (bs : List Bool) : bitsFrom (flagsToNat bs) 0 bs.length = bs := by
  refine List.ext_getElem (by simp [bitsFrom]) fun i hi _ => ?_
  simp only [bitsFrom, List.length_map, List.length_range] at hi
  simp [bitsFrom, testBit_flagsToNat, hi]

theorem bitsFrom_flagsToNat_above {bs : List Bool} {first width : Nat} (h : bs.length ≤ first) :
    bitsFrom (flagsToNat bs) first width = bitsFrom 0 0 width :=
  bitsFrom_congr fun i _ => by simp [testBit_flagsToNat, show bs.length ≤ first + i by omega]

/-! ### The frames -/

theorem committedField_of_small {b : Budget} (small : b.committed < 2048) : committedField b = b.committed := if_pos small

theorem latchedSet_bits (e : Events) :
    bitsFrom e.latchedSet 0 22 = (List.finRange 22).map fun k => (e.latched.get k).isSome := by
  have all : e.latched.toList.map (·.isSome) = (List.finRange 22).map fun k => (e.latched.get k).isSome := by
    refine List.ext_getElem (by simp) fun i _ _ => ?_
    simp [get_eq]
  have length : (e.latched.toList.map (·.isSome)).length = 22 := by simp
  have bits := bitsFrom_flagsToNat (e.latched.toList.map (·.isSome))
  rw [length] at bits
  exact bits.trans all

theorem bitsFrom_code16 (x : Int) : bitsFrom (code16 x) 0 16 = bitsFrom (x % 65536).toNat 0 16 := rfl

theorem bitsFrom_four (n first : Nat) :
    bitsFrom n first 4 = bitsFrom n first 1 ++ bitsFrom n (first + 1) 1 ++ bitsFrom n (first + 2) 1 ++
      bitsFrom n (first + 3) 1 := rfl

theorem binary_eq (n width : Nat) : ((List.range width).map fun i => n.testBit i) = bitsFrom n 0 width :=
  List.map_congr_left fun i _ => by rw [Nat.zero_add]

theorem statusA_bits (l : Live) {first width : Nat} (h : first + width ≤ 64) :
    dataBits (statusA l).data first width = bitsFrom (packBits
      [ (3, l.part.state.code), (1, flag l.planner.defrost), (1, flag l.air.boosting), (2, l.air.mode.code),
        (3, reasonCode l.air.reason), (10, l.air.index.getD 1023), (10, l.air.fEff), (11, l.budget.avail),
        (11, committedField l.budget) ]) first width :=
  dataBits_bytesLE h

theorem statusZ_bits (z : Fin 4) (l : Live) {first width : Nat} (h : first + width ≤ 56) :
    dataBits (statusZ z l).data first width = bitsFrom (packBits
      [ (16, code16 (l.planner.zones.get z).demand), (10, (l.planner.zones.get z).blend),
        (10, (l.planner.zones.get z).level), (10, (l.planner.zones.get z).outlet),
        (1, flag (l.planner.zones.get z).openLoop), (1, flag (l.planner.zones.get z).spanLow),
        (1, flag (l.budget.capped.get z)), (1, flag (l.planner.zones.get z).defrostFlag) ]) first width :=
  dataBits_bytesLE h

/-- Settles O51. -/
theorem statusFramesAreLaidOutAndPlaced : Obligations.StatusFramesAreLaidOutAndPlaced := by
  refine ⟨fun s e free => ⟨fun running => ?periodic, fun running => ?spacing⟩, fun l z => ?layout⟩
  case periodic =>
    obtain ⟨places, eq, reply, a, status, zones⟩ := placePeriodic_eq (s.live.advanceTo e)
    refine ⟨places, ?_, reply, a, status, zones⟩
    refine congrArg _ ((s.running_free _ free).trans ?_)
    rw [show s.live.events.statusTimer = some e from running, onExpiry_some, statusExpires, eq]
    rfl
  case spacing =>
    intro clear placed
    refine congrArg _ ((s.running_free _ free).trans ?_)
    rw [show s.live.events.spacingHold = some e from running, onExpiry_some, spacingExpires]
    dsimp only
    split
    · rename_i owed
      rw [if_pos (show s.live.events.owed = true ∧ s.live.part.state ≠ .watch from owed)]
      rfl
    · rename_i quiet
      rw [if_neg (show ¬(s.live.events.owed = true ∧ s.live.part.state ≠ .watch) from quiet)]
      rfl
  case layout =>
    intro field binary
    have binary_eq : binary = fun n width => bitsFrom n 0 width := funext fun n => funext fun width => binary_eq n width
    rw [binary_eq]
    refine ⟨rfl, bytesLE_length .., ?_, ?_, ?_, ?_, ?_, ?_, ?_, ?_, fun small => ?_, ?_, ⟨rfl, ?_, ?_, ?_, ?_, ?_⟩,
      ⟨rfl, bytesLE_length .., ?_, ?_, ?_, ?_, ?_, ?_⟩⟩
    · refine (statusA_bits l (by decide)).trans ?_
      simp only [bitsFrom_packBits_head]
      cases l.part.state <;> rfl
    · refine (statusA_bits l (by decide)).trans ?_
      simp [bitsFrom_packBits_head, bitsFrom_packBits_tail, bitsFrom_flag]
    · refine (statusA_bits l (by decide)).trans ?_
      simp only [bitsFrom_packBits_head, bitsFrom_packBits_tail, Nat.reduceLeDiff, Nat.reduceSub, bitsFrom_flag]
      cases boost : l.air.boost <;> simp [Air.boosting, boost]
    · refine (statusA_bits l (by decide)).trans ?_
      simp only [bitsFrom_packBits_head, bitsFrom_packBits_tail, Nat.reduceLeDiff, Nat.reduceSub]
      cases l.air.mode <;> rfl
    · refine (statusA_bits l (by decide)).trans ?_
      simp only [bitsFrom_packBits_head, bitsFrom_packBits_tail, Nat.reduceLeDiff, Nat.reduceSub]
      cases l.air.reason with
      | none => rfl
      | some r => cases r <;> rfl
    · refine (statusA_bits l (by decide)).trans ?_
      simp [bitsFrom_packBits_head, bitsFrom_packBits_tail]
    · refine (statusA_bits l (by decide)).trans ?_
      simp [bitsFrom_packBits_head, bitsFrom_packBits_tail, Air.fEff]
    · refine (statusA_bits l (by decide)).trans ?_
      simp [bitsFrom_packBits_head, bitsFrom_packBits_tail]
    · refine (statusA_bits l (by decide)).trans ?_
      simp [bitsFrom_packBits_head, bitsFrom_packBits_tail, committedField_of_small small]
    · refine (statusA_bits l (by decide)).trans ?_
      simp [bitsFrom_packBits_tail, bitsFrom_packBits_nil]
    · simp [statusE, bytesLE_length]
    · exact (dataBits_append_left _ (by decide)).trans (latchedSet_bits _)
    · exact (dataBits_append_left _ (by decide)).trans (bitsFrom_flagsToNat_above (by simp))
    · refine (dataBits_append_right (by decide) (by decide)).trans ((bitsFrom_flagsToNat _).trans ?_)
      have unknown : l.air.index.isNone = decide (l.air.index = none) := by cases l.air.index <;> rfl
      rw [unknown]
      rfl
    · exact (dataBits_append_right (by decide) (by decide)).trans (bitsFrom_flagsToNat_above (by simp))
    · refine (statusZ_bits z l (by decide)).trans ?_
      simp only [bitsFrom_packBits_head]
      rfl
    · refine (statusZ_bits z l (by decide)).trans ?_
      simp [bitsFrom_packBits_head, bitsFrom_packBits_tail]
    · refine (statusZ_bits z l (by decide)).trans ?_
      simp [bitsFrom_packBits_head, bitsFrom_packBits_tail]
    · refine (statusZ_bits z l (by decide)).trans ?_
      simp [bitsFrom_packBits_head, bitsFrom_packBits_tail]
    · refine (statusZ_bits z l (by decide)).trans ?_
      simp [bitsFrom_four, bitsFrom_packBits_head, bitsFrom_packBits_tail, bitsFrom_flag]
    · refine (statusZ_bits z l (by decide)).trans ?_
      simp [bitsFrom_packBits_tail, bitsFrom_packBits_nil]

end Sys2Proof.Machine


/-! The store (R167, R168): the store word, the items of a save, and its read-back. -/

namespace Sys2Proof.Machine

theorem ite_of_iff {α : Sort _} {p q : Prop} [Decidable p] [Decidable q] {x y u v : α} (h : p ↔ q) (hx : x = u)
    (hy : y = v) : (if p then x else y) = if q then u else v :=
  ite_congr (propext h) (fun _ => hx) fun _ => hy

/-! ### Bytes copied, written and compared -/

theorem readByte_copyBytes (src : Bank) (n a : Nat) {dst : Bank} (h : bankWf dst = true) (inside : a + n ≤ bankSize)
    (c : Nat) : readByte (copyBytes src a n dst) c = if a ≤ c ∧ c < a + n then readByte src c else readByte dst c := by
  induction n generalizing a dst with
  | zero =>
    rw [if_neg (by omega)]
    rfl
  | succ n ih =>
    rw [copyBytes, ih (a + 1) (writeByte_wf _ h (by omega)) (by omega), readByte_writeByte h]
    by_cases first : c = a
    · rw [if_neg (by omega), if_pos first, if_pos (by omega), first]
    · rw [if_neg first]
      by_cases later : a + 1 ≤ c ∧ c < a + 1 + n
      · rw [if_pos later, if_pos (by omega)]
      · rw [if_neg later, if_neg (by omega)]

/-- A read after the flaws of a page are written: the flaw at its address, if the address is the page's. -/
theorem readByte_writeCells (page : Nat) (cells : List Host.Cell) {b : Bank} (h : bankWf b = true)
    (distinct : (cells.map (·.1)).Nodup) {a : Nat} (ha : a < bankSize) :
    readByte (writeCells page cells b) a =
      if a / 128 = page then ((cells.find? fun c => c.1 == a).map (·.2)).getD (readByte b a) else readByte b a := by
  induction cells generalizing b with
  | nil => simp [writeCells]
  | cons cell rest ih =>
    obtain ⟨k, v⟩ := cell
    obtain ⟨new, distinct⟩ := List.nodup_cons.mp distinct
    have wf : bankWf (if k / 128 = page ∧ k < bankSize then writeByte b k v else b) = true := by
      split
      · exact writeByte_wf v h (by omega)
      · exact h
    rw [writeCells, ih wf distinct, List.find?_cons]
    by_cases here : k = a
    · subst here
      have none_later : rest.find? (fun c => c.1 == k) = none :=
        List.find?_eq_none.mpr fun c hc => by
          simp only [beq_iff_eq]
          exact fun e => new (e ▸ List.mem_map_of_mem (f := (·.1)) hc)
      by_cases paged : k / 128 = page
      · simp [none_later, paged, ha, readByte_writeByte h]
      · simp [paged]
    · have other : ((k, v).1 == a) = false := by simpa using here
      have same : readByte (if k / 128 = page ∧ k < bankSize then writeByte b k v else b) a = readByte b a := by
        split
        · rw [readByte_writeByte h, if_neg (Ne.symm here)]
        · rfl
      rw [other, same]

theorem readBytes_eq_iff (x y : Bank) (a n : Nat) :
    readBytes x a n = readBytes y a n ↔ ∀ k < n, readByte x (a + k) = readByte y (a + k) := by
  induction n generalizing a with
  | zero => simp [readBytes]
  | succ n ih =>
    rw [readBytes, readBytes, List.cons.injEq, ih]
    constructor
    · rintro ⟨first, later⟩ k hk
      cases k with
      | zero => exact first
      | succ k => simpa [Nat.add_assoc, Nat.add_comm 1 k] using later k (by omega)
    · intro all
      exact ⟨all 0 (by omega), fun k hk => by simpa [Nat.add_assoc, Nat.add_comm 1 k] using all (k + 1) (by omega)⟩

theorem sameBytes_iff (x y : Bank) (a n : Nat) :
    sameBytes x y a n = true ↔ ∀ k < n, readByte x (a + k) = readByte y (a + k) := by
  rw [sameBytes, beq_iff_eq, readBytes_eq_iff]

/-! ### The read-back -/

/-- A page of the store agrees with the same page of ACTIVE. -/
def pageAgrees (s : State) (p : Nat) : Prop :=
  ∀ k : Nat, k < 128 → readByte s.store.image (128 * p + k) = readByte s.active (128 * p + k)

theorem sameBytes_page (s : State) (p : Nat) :
    sameBytes s.store.image s.active (addressOf p 0) 128 = true ↔ pageAgrees s p :=
  sameBytes_iff ..

theorem find_disagreeing_none {s : State} (agree : ∀ p, p < 20 → pageAgrees s p) :
    ((List.range 20).find? fun p => !sameBytes s.store.image s.active (addressOf p 0) 128) = none :=
  List.find?_eq_none.mpr fun p hp => by simp [(sameBytes_page s p).mpr (agree p (List.mem_range.mp hp))]

theorem firstDisagreement_agreeing {s : State} (agree : ∀ p, p < 20 → pageAgrees s p)
    (check : s.store.check = some (bankCheck s.active)) : firstDisagreement s = none := by
  rw [firstDisagreement, find_disagreeing_none agree]
  exact if_pos check

theorem firstDisagreement_check {s : State} (agree : ∀ p, p < 20 → pageAgrees s p)
    (check : s.store.check ≠ some (bankCheck s.active)) : firstDisagreement s = some 20 := by
  rw [firstDisagreement, find_disagreeing_none agree]
  exact if_neg check

theorem firstDisagreement_page {s : State} {p : Nat} (hp : p < 20) (wrong : ¬pageAgrees s p)
    (before : ∀ q, q < p → pageAgrees s q) : firstDisagreement s = some p := by
  have found : ((List.range 20).find? fun p => !sameBytes s.store.image s.active (addressOf p 0) 128) = some p :=
    find?_eq_some_of_least List.pairwise_lt_range (List.mem_range.mpr hp)
      (by simpa using fun same => wrong ((sameBytes_page s p).mp same))
      fun q _ lt => by simpa using (sameBytes_page s q).mpr (before q lt)
  rw [firstDisagreement, found]

/-! ### The check word as it is programmed -/

theorem programmedCheck_eq (check : Nat) (flaws : List Host.Cell) :
    programmedCheck check flaws =
      (((flaws.find? fun c => c.1 == 0).map (·.2)).getD (byte (check % 256))).toNat +
        256 * (((flaws.find? fun c => c.1 == 1).map (·.2)).getD (byte (check / 256))).toNat := by
  have flawAt (o : Option Host.Cell) (v : Byte) : (match o with
      | some c => c.2
      | none => v) = (o.map (·.2)).getD v := by
    cases o <;> rfl
  rw [← flawAt, ← flawAt]
  rfl

theorem bankCheck_lt (b : Bank) : bankCheck b < 65536 := Nat.mod_lt _ (by decide)

theorem interlock_iff (img : Bank) (l : Live) :
    interlock img l = true ↔
      (presented img l.slots 15).isTrue = true ∧ (presented img l.slots 14).isFalse = true := by
  rw [interlock, Bool.and_eq_true]
  rfl

theorem exec_savePageProgrammed {s : State} (free : s.held = false) {item : Nat}
    (saving : s.live.management.saving = some item) (flaws : List Host.Cell) :
    exec (.savePageProgrammed flaws) s = .next (programItem flaws item s) := by
  refine congrArg _ ((if_neg (by simp [free])).trans ?_)
  rw [itemProgrammed, saving]

theorem exec_saveComplete {s : State} (free : s.held = false) (saving : s.live.management.saving = some 21) :
    exec .saveComplete s = .next (finishSave s) := by
  refine congrArg _ ((if_neg (by simp [free])).trans ?_)
  exact if_pos saving

/-- Settles O49. -/
theorem storeWordAndSavesAreWritten : Obligations.StoreWordAndSavesAreWritten := by
  refine ⟨fun s groups takes => ⟨?protect, ?unprotect, ?save⟩, fun s free => ⟨fun set progress => ?written,
    fun set progress => ?unwritten, fun item flaws saving => ⟨fun page wf distinct => ?page, ?_, ?_, ?_, ?_, ?idle⟩,
    fun saving => ⟨fun agree check => ?good, fun p hp wrong before => ?bad, fun agree check => ?badCheck⟩⟩⟩
  case protect =>
    refine congrArg _ (request_result takes 0x28 (body := protectBody groups) rfl ?_ ?_)
    all_goals
      unfold protectBody
      repeat' split
      all_goals rfl
  case unprotect =>
    have parked : (!interlock s.active s.live) = true ↔
        ¬((presented s.active s.live.slots 15).isTrue = true ∧ (presented s.active s.live.slots 14).isFalse = true) := by
      rw [← interlock_iff, Bool.not_eq_true', Bool.not_eq_true]
    refine congrArg _ (request_result takes 0x29 (body := unprotectBody groups)
      (ite_of_iff Iff.rfl rfl (ite_of_iff Iff.rfl rfl (ite_of_iff parked rfl rfl))) ?_ ?_)
    all_goals
      repeat' split
      all_goals rfl
  case save =>
    refine congrArg _ (request_result takes 0x26 (body := saveBody) rfl ?_ ?_)
    all_goals
      unfold saveBody
      dsimp only
      split <;> rfl
  case written =>
    refine congrArg _ ((if_neg (by simp [free])).trans ?_)
    rw [protectWritten, show s.live.management.inProgress = some (.protect set) from progress]
    rfl
  case unwritten =>
    refine congrArg _ ((if_neg (by simp [free])).trans ?_)
    rw [protectWritten, show s.live.management.inProgress = some (.unprotect set) from progress]
    rfl
  case page =>
    have inside : addressOf item 0 + 128 ≤ bankSize := by
      simp only [addressOf, bankSize]
      omega
    refine ⟨writeCells item flaws (copyBytes s.active (addressOf item 0) 128 s.store.image),
      (exec_savePageProgrammed free saving flaws).trans (congrArg _ (if_pos page)), fun a ha => ?_⟩
    rw [readByte_writeCells item flaws (copyBytes_wf _ _ _ _ wf inside) distinct ha, readByte_copyBytes _ _ _ wf inside]
    by_cases here : a / 128 = item
    · rw [if_pos here, if_pos here, if_pos (by simp only [addressOf]; omega)]
    · rw [if_neg here, if_neg here, if_neg (by simp only [addressOf]; omega)]
  case good =>
    refine (exec_saveComplete free saving).trans (congrArg _ ?_)
    simp only [finishSave, firstDisagreement_agreeing agree check]
    rfl
  case bad =>
    refine (exec_saveComplete free saving).trans (congrArg _ ?_)
    simp only [finishSave, firstDisagreement_page hp wrong before]
    rfl
  case badCheck =>
    refine (exec_saveComplete free saving).trans (congrArg _ ?_)
    simp only [finishSave, firstDisagreement_check agree check]
    rfl
  case idle =>
    intro readBack
    refine (exec_savePageProgrammed free saving flaws).trans (congrArg _ ?_)
    subst readBack
    rfl
  all_goals
    intro check
    subst check
    have small := bankCheck_lt s.active
    have low : (byte (bankCheck s.active % 256)).toNat = bankCheck s.active % 256 := toNat_byte (by simp [isByte]; omega)
    have high : (byte (bankCheck s.active / 256)).toNat = bankCheck s.active / 256 := toNat_byte (by simp [isByte]; omega)
    have programmed := (exec_savePageProgrammed free saving flaws).trans (congrArg Host.Outcome.next
      (show programItem flaws 20 s = { s.onLive (onManagement fun m => { m with saving := some 21 }) with
        store := { s.store with check := some (programmedCheck (bankCheck s.active) flaws) } } from rfl))
    rw [programmedCheck_eq] at programmed
  · intro clean
    subst clean
    simp only [List.find?_nil, Option.map_none, Option.getD_none, low, high, Nat.mod_add_div] at programmed
    exact programmed
  · intro v0 v1 first second
    rw [first, second] at programmed
    exact programmed
  · intro v0 first second
    simp only [first, second, Option.map_none, Option.getD_none, high] at programmed
    exact programmed
  · intro v1 first second
    simp only [first, second, Option.map_none, Option.getD_none, low] at programmed
    exact programmed

end Sys2Proof.Machine


/-! The frame of the air source controller: what no entry, change of reason, evaluation or notice of it changes, and what
a slot notice can do to the part state. -/

namespace Sys2Proof.Machine

/-- The live part with the air source controller and what `outer` erases erased. -/
def Live.beyond (l : Live) : Live := { l.outer with air := Air.initial 0 0 }

section Fields

variable {l m : Live}

theorem beyond_of_outer (h : l.outer = m.outer) : l.beyond = m.beyond :=
  congrArg (fun x : Live => { x with air := Air.initial 0 0 }) h

variable (h : l.beyond = m.beyond)
include h

theorem beyond_now : l.now = m.now := (congrArg (fun x : Live => x.now) h :)
theorem beyond_slots : l.slots = m.slots := (congrArg (fun x : Live => x.slots) h :)
theorem beyond_planner : l.planner = m.planner := (congrArg (fun x : Live => x.planner) h :)
theorem beyond_management : l.management = m.management := (congrArg (fun x : Live => x.management) h :)
theorem beyond_part : l.part = m.part := (congrArg (fun x : Live => x.part) h :)
theorem beyond_linkState : l.link.state = m.link.state := (congrArg (fun x : Live => x.link.state) h :)

end Fields

@[simp] theorem beyond_withAir (a : Air) (l : Live) : ({ l with air := a } : Live).beyond = l.beyond := rfl
@[simp] theorem beyond_latch (k : Kind) (n : Nat) (l : Live) : (latch k n l).beyond = l.beyond := beyond_of_outer (by simp)
@[simp] theorem beyond_issueTargets (img : Bank) (l : Live) : (issueTargets img l).beyond = l.beyond :=
  beyond_of_outer (by simp)
@[simp] theorem beyond_testShed (img : Bank) (l : Live) : (testShed img l).beyond = l.beyond := beyond_of_outer (by simp)
@[simp] theorem beyond_roomNotice (img : Bank) (l : Live) : (roomNotice img l).beyond = l.beyond := beyond_of_outer (by simp)

@[simp] theorem beyond_formIndex (img : Bank) (l : Live) : (formIndex img l).beyond = l.beyond := by
  unfold formIndex
  dsimp only
  split <;> simp

@[simp] theorem beyond_reworkFraction (img : Bank) (l : Live) : (reworkFraction img l).beyond = l.beyond := by
  unfold reworkFraction
  split
  · dsimp only
    split <;> simp
  · rfl

@[simp] theorem beyond_latchRisen (a : Air) (h : Presented) (l : Live) : (latchRisen a h l).beyond = l.beyond := by
  unfold latchRisen
  dsimp only
  split <;> split <;> simp

@[simp] theorem beyond_testIngress (img : Bank) (l : Live) : (testIngress img l).beyond = l.beyond := by
  simp [testIngress]

@[simp] theorem beyond_enterMode (img : Bank) (m : Mode) (r : Option Reason) (l : Live) :
    (enterMode img m r l).beyond = l.beyond := by
  simp [enterMode]

@[simp] theorem beyond_changeReason (r : Reason) (l : Live) : (changeReason r l).beyond = l.beyond := by
  simp [changeReason]

@[simp] theorem beyond_testsClosedHaze (img : Bank) (t : Trigger) (l : Live) :
    (testsClosedHaze img t l).beyond = l.beyond := by
  unfold testsClosedHaze
  repeat' split
  all_goals simp

@[simp] theorem beyond_applyTests (img : Bank) (t : Trigger) (l : Live) : (applyTests img t l).beyond = l.beyond := by
  unfold applyTests testsFresh testsShield testsClosedManual testsPurge
  dsimp only
  repeat' split
  all_goals simp

@[simp] theorem beyond_takeTransition (img : Bank) (t : Trigger) (l : Live) :
    (takeTransition img t l).beyond = l.beyond := by
  unfold takeTransition
  repeat' split
  all_goals simp

@[simp] theorem beyond_settleTimers (img : Bank) (n : Nat) (l : Live) : (settleTimers img n l).beyond = l.beyond := by
  induction n generalizing l with
  | zero => rfl
  | succ n ih =>
    unfold settleTimers
    split
    · rw [ih, beyond_takeTransition]
    · rfl

@[simp] theorem beyond_evaluate (img : Bank) (t : Trigger) (l : Live) : (evaluate img t l).beyond = l.beyond := by
  simp [evaluate]

@[simp] theorem beyond_batteryNotice (img : Bank) (l : Live) : (batteryNotice img l).beyond = l.beyond := by
  have worked : (workOutAvail img l).beyond = l.beyond := rfl
  unfold batteryNotice
  dsimp only
  repeat' split
  all_goals simp [worked]

/-! ### Slot notices and the part state -/

/-- A change of the part state that a slot notice can bring: none, or the return to RUN (R182). -/
def StaysOrRuns (l m : Live) : Prop :=
  (m.part.state = l.part.state ∨ m.part.state = .run) ∧ m.link.state = l.link.state

theorem StaysOrRuns.of_beyond {l m : Live} (h : m.beyond = l.beyond) : StaysOrRuns l m :=
  ⟨.inl (congrArg Part.state (beyond_part h)), beyond_linkState h⟩

theorem StaysOrRuns.trans {l m n : Live} (h : StaysOrRuns l m) (k : StaysOrRuns m n) : StaysOrRuns l n := by
  obtain ⟨part, link⟩ := h
  obtain ⟨part', link'⟩ := k
  refine ⟨?_, link'.trans link⟩
  obtain same | run := part'
  · rwa [same]
  · exact .inr run

theorem startIgnitionTimer_staysOrRuns (img : Bank) (l : Live) : StaysOrRuns l (startIgnitionTimer img l) :=
  ⟨.inl rfl, rfl⟩

theorem enterRun_staysOrRuns (img : Bank) (l : Live) : StaysOrRuns l (enterRun img l) := by
  refine ⟨.inr (enterRun_kept img l).1, (outer_linkState (outer_issueTargets img (startRun img l))).trans ?_⟩
  unfold startRun testIgnition
  dsimp only
  split <;> rfl

theorem ignitionNotice_staysOrRuns (img : Bank) (l : Live) : StaysOrRuns l (ignitionNotice img l) := by
  unfold ignitionNotice ignitionInRun
  repeat' split
  · exact ⟨.inl rfl, rfl⟩
  · exact ⟨.inl rfl, rfl⟩
  · exact startIgnitionTimer_staysOrRuns img l
  · exact enterRun_staysOrRuns img l
  · exact ⟨.inl rfl, rfl⟩
  · exact ⟨.inl rfl, rfl⟩

theorem notify_staysOrRuns (img : Bank) (n : Fin 32) (l : Live) : StaysOrRuns l (notify img n l) := by
  unfold notify
  repeat' split
  · exact .of_beyond (by simp)
  · exact .of_beyond (by simp)
  · exact ignitionNotice_staysOrRuns img l
  · exact .of_beyond (by simp [hazeNotice])
  · exact .of_beyond (by simp [entryNotice])
  · exact .of_beyond (by simp [recircNotice])
  · refine .of_beyond ?_
    unfold pressureNotice
    dsimp only
    split <;> simp
  · exact .of_beyond (by simp [cabHazeNotice])
  · exact .of_beyond rfl

theorem notifyUnlessForced_staysOrRuns (img : Bank) (n : Fin 32) (l : Live) :
    StaysOrRuns l (notifyUnlessForced img n l) := by
  unfold notifyUnlessForced
  split
  · exact .of_beyond rfl
  · exact notify_staysOrRuns img n l

theorem offerSlot_staysOrRuns (img : Bank) (n : Fin 32) (value : Int) (rank : Nat) (l : Live) :
    StaysOrRuns l (offerSlot img n value rank l) := by
  unfold offerSlot
  dsimp only
  repeat' split
  · exact .of_beyond rfl
  · exact .trans ⟨.inl rfl, rfl⟩ (notifyUnlessForced_staysOrRuns ..)
  · exact ⟨.inl rfl, rfl⟩

/-! ### The scan of a frame (R15 to R21) -/

theorem latchRule_staysOrRuns (img : Bank) (n : Nat) (r : Rule) (f : RxFrame) (l : Live) :
    StaysOrRuns l (latchRule img n r f l) := by
  have counted (m : Live) (g : RuleCounts → RuleCounts) : StaysOrRuns m (onCounts n g m) := by
    unfold onCounts
    split <;> exact ⟨.inl rfl, rfl⟩
  unfold latchRule
  dsimp only
  split
  · exact counted ..
  · exact (offerSlot_staysOrRuns ..).trans (counted ..)

theorem ruleTakes_staysOrRuns (img : Bank) (n : Nat) (r : Rule) (f : RxFrame) (l : Live) :
    StaysOrRuns l (ruleTakes img n r f l).1 := by
  have counted (g : RuleCounts → RuleCounts) : StaysOrRuns l (onCounts n g l) := by
    unfold onCounts
    split <;> exact ⟨.inl rfl, rfl⟩
  unfold ruleTakes
  repeat' split
  · exact counted _
  · exact counted _
  · exact latchRule_staysOrRuns ..

/-- A scan leaves the part state, or returns the part to RUN; so it never leads to WATCH. -/
theorem scanRules_staysOrRuns (img table : Bank) (f : RxFrame) (left n : Nat) (taken : Bool) (l : Live) :
    StaysOrRuns l (scanRules img table f left n taken l) := by
  induction left generalizing n taken l with
  | zero =>
    unfold scanRules
    split <;> exact ⟨.inl rfl, rfl⟩
  | succ left ih =>
    have step := ruleTakes_staysOrRuns img n (ruleAt table n) f l
    unfold scanRules
    dsimp only
    split
    · split
      · exact step.trans ((show StaysOrRuns _ (scanAt (n + 1) _) from ⟨.inl rfl, rfl⟩).trans (ih ..))
      · exact step
    · exact ih ..

/-- The rules before the first that matches are passed over. -/
theorem scanRules_skip {table : Bank} {f : RxFrame} {n m : Nat} (le : n ≤ m) (inside : m ≤ 96)
    (fail : ∀ k, n ≤ k → k < m → (ruleAt table k).matches f = false) (img : Bank) (taken : Bool) (l : Live) :
    scanRules img table f (96 - n) n taken l = scanRules img table f (96 - m) m taken l := by
  induction le with
  | refl => rfl
  | @step k le ih =>
    have miss := fail k le (by omega)
    rw [ih (by omega) fun j low high => fail j low (by omega), show 96 - k = (96 - (k + 1)) + 1 by omega, scanRules]
    simp [miss]

/-- Settles O13. -/
theorem scanFrameScansTheHeadByTheFirstMatchingRules : Obligations.ScanFrameScansTheHeadByTheFirstMatchingRules := by
  refine ⟨fun s free => ⟨fun f rest queue awake idle => ?scans, fun none => ?idles⟩, fun img table f n taken l =>
    ⟨fun m le lt before found => ?first, fun no_match => ?unclaimed⟩⟩
  case scans =>
    intro begun l ended
    refine congrArg _ ((s.running_free _ free).trans ?_)
    have runs : classifierRuns s.live = true := by simp [classifierRuns, awake, idle]
    have notWatch : l.part.state ≠ .watch := by
      obtain ⟨same | run, -⟩ := scanRules_staysOrRuns s.active s.active f 96 0 false begun
      · exact fun h => awake (same.symm.trans h)
      · exact fun h => absurd (run.symm.trans h) (by decide)
    have scanned : scanHead s.active s.live = endScan l := by
      simp only [scanHead, queue, runs, if_true]
      rfl
    have last : endScan l = ended := by
      unfold endScan
      rw [if_neg notWatch]
    rw [scanned, last]
  case idles =>
    refine congrArg _ ((s.running_free _ free).trans ?_)
    have stays : scanHead s.active s.live = s.live := by
      unfold scanHead
      split
      · rfl
      · rename_i f rest queue
        refine if_neg fun runs => ?_
        simp [classifierRuns] at runs
        obtain empty | watch | busy := none
        · simp [queue] at empty
        · exact runs.1 watch
        · exact busy runs.2
    rw [stays]
  case first =>
    intro r
    rw [scanRules_skip le (by omega) before, show 96 - m = (96 - (m + 1)) + 1 by omega, scanRules]
    simp only [show (ruleAt table m).matches f = true from found, if_true, ruleTakes]
    split
    · rfl
    · split <;> rfl
  case unclaimed =>
    by_cases le : n ≤ 96
    · rw [scanRules_skip le (Nat.le_refl _) no_match]
      rfl
    · rw [show 96 - n = 0 by omega]
      rfl

end Sys2Proof.Machine


/-! The signal slots (chapter 3): offers, expiries and forcing. -/

namespace Sys2Proof.Machine

theorem onSlot_eq (n : Fin 32) (f : Slot → Slot) (l : Live) :
    onSlot n f l = { l with slots := l.slots.set n (f (l.slots.get n)) } := rfl

theorem notifyUnlessForced_eq {n : Fin 32} {l : Live} {s : Slot} (slot : l.slots.get n = s) (img : Bank) :
    notifyUnlessForced img n l = if s.forced.isSome then l else notify img n l := by
  subst slot
  rfl

/-! ### Offers (R38 to R40, R44) -/

theorem lapsing_of_fresh {img : Bank} {n : Fin 32} {l : Live} (fresh : (l.slots.get n).belief = .fresh) :
    lapsing img n l = true ↔
      ∃ t, (l.slots.get n).since = some t ∧ t + ((slotDef img n).maxAge + (slotDef img n).holdTime) * 100 ≤ l.now := by
  cases since : (l.slots.get n).since <;> simp [lapsing, lapseDue, slotOf, fresh, since, SlotDef.lapseAge]

theorem offerSlot_disabled {img : Bank} {n : Fin 32} (disabled : (slotDef img n).enabled = false) (value : Int) (rank : Nat)
    (l : Live) : offerSlot img n value rank l = l :=
  if_pos (by simp [disabled])

theorem offerSlot_enabled {img : Bank} {n : Fin 32} (enabled : (slotDef img n).enabled = true) (value : Int) (rank : Nat)
    (l : Live) : offerSlot img n value rank l =
      if (slotOf l n).accepts (lapsing img n l) rank then
        notifyUnlessForced img n (onSlot n (Slot.accepted (slotDef img n) l.now value rank) l)
      else onSlot n (fun s => { s with outranked := countUp s.outranked 255 }) l :=
  if_neg (by simp [enabled])

/-- The rank test (R38), and the offer that comes with the lapse (R44). -/
theorem accepts_iff (img : Bank) (n : Fin 32) (rank : Nat) (l : Live) :
    (slotOf l n).accepts (lapsing img n l) rank = true ↔
      ¬((l.slots.get n).belief = .fresh ∧ (l.slots.get n).rank < rank) ∨
        ∃ t, (l.slots.get n).since = some t ∧
          t + ((slotDef img n).maxAge + (slotDef img n).holdTime) * 100 ≤ l.now := by
  by_cases fresh : (l.slots.get n).belief = .fresh
  · rw [← lapsing_of_fresh fresh]
    simp only [Slot.accepts, slotOf, fresh, bne_self_eq_false, Bool.false_or, Bool.or_eq_true, true_and, Nat.not_lt]
    rw [or_comm]
    exact or_congr_left decide_eq_true_iff
  · simp [Slot.accepts, slotOf, fresh]

/-- Settles O17. -/
theorem offersAreRankedClampedAndKept : Obligations.OffersAreRankedClampedAndKept := by
  intro img n value rank l d s out due new
  refine ⟨fun disabled => offerSlot_disabled disabled value rank l, fun enabled fresh worse notDue => ?beaten,
    fun enabled taken => ⟨?accepted, ?stale, ?lapse⟩⟩
  case beaten =>
    rw [offerSlot_enabled enabled]
    refine if_neg fun accepts => ?_
    obtain better | lapse := (accepts_iff img n rank l).mp accepts
    · exact better ⟨fresh, worse⟩
    · exact notDue lapse
  case accepted =>
    rw [offerSlot_enabled enabled, if_pos ((accepts_iff img n rank l).mpr taken), onSlot_eq]
    exact notifyUnlessForced_eq (s := new) (get_set_self ..) img
  case stale =>
    simp only [staleDue, new, Option.map_some, SlotDef.staleAge, true_and]
    by_cases hold : d.holdTime = 0
    · rw [if_pos hold]
      exact if_neg fun h => h hold
    · rw [if_neg hold]
      exact if_pos hold
  case lapse =>
    simp only [lapseDue, new, true_or, if_true, Option.map_some, SlotDef.lapseAge]
    rfl

/-! ### Expiries (R42, R43) -/

theorem staleDue_eq_none {img : Bank} {n : Fin 32} {s : Slot} (h : s.belief ≠ .fresh ∨ (slotDef img n).holdTime = 0) :
    staleDue img n s = none :=
  if_neg fun ⟨fresh, hold⟩ => h.elim (fun old => old fresh) hold

theorem staleDue_eq_some {img : Bank} {n : Fin 32} {s : Slot} {t : Nat} (fresh : s.belief = .fresh)
    (hold : (slotDef img n).holdTime ≠ 0) (since : s.since = some t) :
    staleDue img n s = some (t + (slotDef img n).maxAge * 100) := by
  rw [staleDue]
  refine (if_pos ⟨fresh, hold⟩).trans ?_
  rw [since]
  rfl

theorem lapseDue_eq_none {img : Bank} {n : Fin 32} {s : Slot} (h : s.belief = .never ∨ s.belief = .lapsed) :
    lapseDue img n s = none :=
  if_neg fun aged => by obtain old | old := h <;> simp [old] at aged

theorem lapseDue_eq_some {img : Bank} {n : Fin 32} {s : Slot} {t : Nat} (aged : s.belief = .fresh ∨ s.belief = .stale)
    (since : s.since = some t) :
    lapseDue img n s = some (t + ((slotDef img n).maxAge + (slotDef img n).holdTime) * 100) := by
  rw [lapseDue]
  refine (if_pos aged).trans ?_
  rw [since]
  rfl

/-! ### Requests that may return the part to RUN -/

theorem wakeCheck_of_staysOrRuns {l m : Live} (h : StaysOrRuns l m)
    (settled : ¬(l.part.state = .waking ∧ l.link.state = .failed)) (img : Bank) : wakeCheck img m = m := by
  obtain ⟨part, link⟩ := h
  refine if_neg fun ⟨waking, failed⟩ => ?_
  rw [link] at failed
  obtain same | run := part
  · exact settled ⟨same ▸ waking, failed⟩
  · exact absurd (run.symm.trans waking) (by decide)

/-- A request whose effect leaves the part state, or returns the part to RUN, ends with its reply. -/
theorem request_staysOrRuns {s : State} (takes : s.takes = true) (code : Byte) {body : State → State} {t : State}
    (h : body s = t) (stays : StaysOrRuns s.live t.live) : request code body s = resetRange t := by
  subst h
  obtain ⟨free, onBus, awake, -, settled⟩ := s.takes_iff.mp takes
  have carried := orBusy_of_takes takes code (body := fun t => resetRange (body t))
  rw [request, takeRequest_awake free onBus awake, carried]
  have same : StaysOrRuns s.live (resetRange (body s)).live := stays
  exact congrArg (fun l => { resetRange (body s) with live := l }) (wakeCheck_of_staysOrRuns same settled _)

theorem exec_slotStaleExpiry {s : State} (free : s.held = false) (n : Fin 32) :
    exec (.slotStaleExpiry n) s =
      .next { s with live := onExpiry (staleDue s.active n (s.live.slots.get n)) (staleExpires s.active n) s.live } :=
  congrArg _ (s.running_free _ free)

theorem exec_slotLapseExpiry {s : State} (free : s.held = false) (n : Fin 32) :
    exec (.slotLapseExpiry n) s =
      .next { s with live := onExpiry (lapseDue s.active n (s.live.slots.get n)) (lapseExpires s.active n) s.live } :=
  congrArg _ (s.running_free _ free)

/-- Settles O18. -/
theorem slotsAgeAndAreForced : Obligations.SlotsAgeAndAreForced := by
  refine ⟨fun s n t free since => ?expiries, fun s n takes => ?forced⟩
  case expiries =>
    intro d r told stale lapsed
    refine ⟨fun fresh hold => ?_, fun aged => ?_, fun quiet => ?_, fun quiet => ?_⟩
    · rw [exec_slotStaleExpiry free, staleDue_eq_some fresh hold since, onExpiry_some, staleExpires, onSlot_eq,
        notifyUnlessForced_eq (get_set_self ..)]
      rfl
    · have slot : (latch kSlotLapsed n.val lapsed).slots.get n = { r with belief := .lapsed, value := d.default } := by
        rw [outer_slots (outer_latch ..)]
        exact get_set_self ..
      rw [exec_slotLapseExpiry free, lapseDue_eq_some aged since, onExpiry_some]
      exact congrArg (fun l => Host.Outcome.next { s with live := l }) (notifyUnlessForced_eq slot s.active)
    · rw [exec_slotStaleExpiry free, staleDue_eq_none quiet, onExpiry_none]
    · rw [exec_slotLapseExpiry free, lapseDue_eq_none quiet, onExpiry_none]
  case forced =>
    intro d r told
    have notified (m : Live) (same : StaysOrRuns s.live m) : StaysOrRuns s.live (notify s.active n m) :=
      same.trans (notify_staysOrRuns ..)
    refine ⟨fun value => congrArg Host.Outcome.next ?_, congrArg Host.Outcome.next ?_, fun k value out =>
      ⟨congrArg Host.Outcome.next ?_, congrArg Host.Outcome.next ?_⟩⟩
    · refine request_staysOrRuns takes 0x11 (body := forceSlotBody n.val value) ?_ ?_
      · simp only [forceSlotBody, slotNumber_val]
        rfl
      · split
        · exact notified _ ⟨.inl rfl, rfl⟩
        · exact ⟨.inl rfl, rfl⟩
    · refine request_staysOrRuns takes 0x12 (body := releaseSlotBody n.val) ?_ ?_
      · have released : releaseSlotOf s.active n s.live = if r.forced.isSome then (told none).live else s.live := rfl
        rw [releaseSlotBody, slotNumber_val]
        simp only [State.onLive, released]
        split <;> rfl
      · split
        · exact notified _ ⟨.inl rfl, rfl⟩
        · exact ⟨.inl rfl, rfl⟩
    · exact request_staysOrRuns takes 0x11 (body := forceSlotBody k value)
        (by rw [forceSlotBody, slotNumber_out out]; rfl) ⟨.inl rfl, rfl⟩
    · exact request_staysOrRuns takes 0x12 (body := releaseSlotBody k)
        (by rw [releaseSlotBody, slotNumber_out out]; rfl) ⟨.inl rfl, rfl⟩

end Sys2Proof.Machine


/-! The air source controller (chapter 4): entries to a mode, the expiries of its timers, and its notices. -/

namespace Sys2Proof.Machine

/-! ### What the issue and the latches leave of the controller -/

@[simp] theorem latch_air (k : Kind) (n : Nat) (l : Live) : (latch k n l).air = l.air := outer_air (outer_latch k n l)

@[simp] theorem issueTargets_air (img : Bank) (l : Live) : (issueTargets img l).air = l.air :=
  outer_air (outer_issueTargets img l)

@[simp] theorem latchRisen_air (before : Air) (haze : Presented) (l : Live) : (latchRisen before haze l).air = l.air := by
  unfold latchRisen
  dsimp only
  split <;> split <;> simp

theorem enterMode_air (img : Bank) (mode : Mode) (reason : Option Reason) (l : Live) :
    (enterMode img mode reason l).air = l.air.entered img l.now (seen img l outTempSlot) (seen img l entrySlot)
      (seen img l cabHazeSlot) mode reason := by
  simp [enterMode]

theorem isSealed_iff (m : Mode) : m.isSealed = true ↔ m = .shield ∨ m = .closed := by
  cases m <;> decide

theorem isSealed_eq (m : Mode) : m.isSealed = decide (m = .shield ∨ m = .closed) := by
  cases m <;> decide

theorem reason_beq (r : Option Reason) (x : Reason) : (r == some x) = decide (r = some x) := by
  by_cases h : r = some x <;> simp [h]

theorem issueTargets_parked {img : Bank} {l : Live} (parked : l.part.state ≠ .run) : issueTargets img l = l := if_neg parked

/-- Settles O21. -/
theorem modeEntrySetsTheWholeController : Obligations.ModeEntrySetsTheWholeController := by
  refine ⟨fun img mode reason l => ?entry, fun before haze l => ?risen⟩
  case entry =>
    intro a out entry haze shut f new
    have entered : a.entered img l.now out entry haze mode reason = new := by
      simp only [Air.entered, Air.withConditions, Air.withTargets, boostAtEntry, isSealed_eq, Presented.isTrue_iff,
        reason_beq, defogCondition, ingressCondition, new]
      cases mode with
      | fresh => simp [modeTargets, freshFraction, f, shut]
      | shield => simp [modeTargets, f, shut]
      | closed => simp [modeTargets, f, shut]
      | purge => simp [modeTargets, f, shut]
    have beyond := beyond_enterMode img mode reason l
    refine ⟨?_, (enterMode_air ..).trans entered, beyond_slots beyond, beyond_planner beyond, beyond_now beyond,
      issueTargets_parked, fun running => ?_⟩
    · have unfolded : enterMode img mode reason l = issueTargets img (latchRisen a haze (latch kModeChange
          (modeParameter (a.entered img l.now out entry haze mode reason))
          { l with air := a.entered img l.now out entry haze mode reason })) := rfl
      rw [unfolded, entered]
      rfl
    · refine (if_pos running).trans ?_
      rw [← isSealed_eq]
      rfl
  case risen =>
    intro a defog
    have first : (if l.air.defogLimited && !before.defogLimited then latch kDefogLimited l.air.mode.code l else l) =
        defog := by
      simp only [Bool.and_eq_true, Bool.not_eq_true']
      rfl
    have same : defog.air = l.air := by
      rw [← first]
      split <;> simp
    unfold latchRisen
    rw [first]
    dsimp only
    rw [same]
    simp only [Bool.and_eq_true, Bool.not_eq_true']
    rfl

end Sys2Proof.Machine


/-! The mode machine (R57 to R62): its conditions and timers, and what the expiries lead to. -/

namespace Sys2Proof.Machine

/-! ### Conditions -/

theorem atLeast_iff (a : Air) (t : Nat) : a.atLeast t = true ↔ ∃ x, a.index = some x ∧ t ≤ x := by
  simp [Air.atLeast, Option.any_eq_true]

theorem below_iff (a : Air) (t : Nat) : a.below t = true ↔ ∃ x, a.index = some x ∧ x < t := by
  simp [Air.below, Option.any_eq_true]

theorem not_atLeast {a : Air} {x t : Nat} (index : a.index = some x) (lt : x < t) : ¬a.atLeast t = true := by
  simpa [Air.atLeast, index] using lt

theorem not_atLeast_unknown {a : Air} (unknown : a.index = none) (t : Nat) : ¬a.atLeast t = true := by
  simp [Air.atLeast, unknown]

theorem riseCondition_iff (img : Bank) (a : Air) :
    riseCondition img a = true ↔ a.mode = .fresh ∧ ∃ x, a.index = some x ∧ shieldOn img ≤ x := by
  rw [riseCondition, Bool.and_eq_true, atLeast_iff, beq_iff_eq]

theorem unknownCondition_iff (a : Air) : unknownCondition a = true ↔ a.mode = .fresh ∧ a.index = none := by
  rw [unknownCondition, Bool.and_eq_true, beq_iff_eq, Option.isNone_iff_eq_none]

theorem fallCondition_iff (img : Bank) (a : Air) : fallCondition img a = true ↔
    (a.mode = .shield ∧ ∃ x, a.index = some x ∧ x < clearBelow img) ∨
      (a.mode = .closed ∧ a.reason = some .haze ∧ ∃ x, a.index = some x ∧ x < closeOff img) := by
  simp only [fallCondition, Bool.or_eq_true, Bool.and_eq_true, below_iff, beq_iff_eq, and_assoc]

theorem conditionTimer_eq (now : Nat) (c : Bool) (d : Nat) (t : Timer) :
    conditionTimer now c d t = if c = true then some (t.getD (now + d)) else none := by
  unfold conditionTimer
  split
  · cases t <;> rfl
  · rfl

/-! ### Timers after an evaluation -/

theorem dueAtOnce_eq_none {img : Bank} {a : Air}
    (rise : riseCondition img a = true → a.rise = none → riseDwell img ≠ 0)
    (unknown : unknownCondition a = true → a.unknown = none → unknownDwell img ≠ 0)
    (fall : fallCondition img a = true → a.fall = none → fallDwell img ≠ 0) : dueAtOnce img a = none := by
  rw [dueAtOnce, if_neg fun ⟨c, stopped, zero⟩ => rise c stopped zero,
    if_neg fun ⟨c, stopped, zero⟩ => unknown c stopped zero, if_neg fun ⟨c, stopped, zero⟩ => fall c stopped zero]

theorem settleTimers_of_none {img : Bank} {l : Live} (none_due : dueAtOnce img l.air = none) (n : Nat) :
    settleTimers img n l = { l with air := l.air.withTimers img l.now } := by
  cases n with
  | zero => rfl
  | succ n => rw [settleTimers, none_due]

theorem settleTimers_of_due {img : Bank} {l : Live} {t : Trigger} (due : dueAtOnce img l.air = some t) (n : Nat) :
    settleTimers img (n + 1) l = settleTimers img n (takeTransition img t l) := by
  rw [settleTimers, due]

/-- Where no condition holds an evaluation leaves the three timers stopped. -/
theorem settleTimers_calm {img : Bank} {l : Live} (rise : ¬riseCondition img l.air = true)
    (unknown : ¬unknownCondition l.air = true) (fall : ¬fallCondition img l.air = true) (n : Nat) :
    settleTimers img n l = { l with air := { l.air with rise := none, unknown := none, fall := none } } := by
  rw [settleTimers_of_none (dueAtOnce_eq_none (fun c => absurd c rise) (fun c => absurd c unknown)
    fun c => absurd c fall)]
  simp only [Air.withTimers, conditionTimer_eq, if_neg rise, if_neg unknown, if_neg fall]

/-- After an entry the timers are stopped; where no condition holds the entry stands as it is. -/
theorem settleTimers_enterMode_calm {img : Bank} {mode : Mode} {reason : Option Reason} {l : Live}
    (rise : ¬riseCondition img (enterMode img mode reason l).air = true)
    (unknown : ¬unknownCondition (enterMode img mode reason l).air = true)
    (fall : ¬fallCondition img (enterMode img mode reason l).air = true) (n : Nat) :
    settleTimers img n (enterMode img mode reason l) = enterMode img mode reason l := by
  rw [settleTimers_calm rise unknown fall]
  have stopped : { (enterMode img mode reason l).air with rise := none, unknown := none, fall := none } =
      (enterMode img mode reason l).air := by
    rw [enterMode_air]
    rfl
  rw [stopped]

theorem enterMode_mode (img : Bank) (mode : Mode) (reason : Option Reason) (l : Live) :
    (enterMode img mode reason l).air.mode = mode ∧ (enterMode img mode reason l).air.reason = reason ∧
      (enterMode img mode reason l).air.index = l.air.index := by
  rw [enterMode_air]
  exact ⟨rfl, rfl, rfl⟩

theorem settleTimers_enterPurge (img : Bank) (reason : Option Reason) (l : Live) (n : Nat) :
    settleTimers img n (enterMode img .purge reason l) = enterMode img .purge reason l := by
  obtain ⟨mode, -, -⟩ := enterMode_mode img .purge reason l
  refine settleTimers_enterMode_calm ?_ ?_ ?_ n
  · simp [riseCondition_iff, mode]
  · simp [unknownCondition_iff, mode]
  · simp [fallCondition_iff, mode]

theorem settleTimers_enterFresh {img : Bank} {reason : Option Reason} {l : Live} {x : Nat} (index : l.air.index = some x)
    (clear : x < shieldOn img) (n : Nat) :
    settleTimers img n (enterMode img .fresh reason l) = enterMode img .fresh reason l := by
  obtain ⟨mode, -, same⟩ := enterMode_mode img .fresh reason l
  refine settleTimers_enterMode_calm ?_ ?_ ?_ n
  · simp [riseCondition_iff, mode, same, index, clear]
  · simp [unknownCondition_iff, same, index]
  · simp [fallCondition_iff, mode]

theorem settleTimers_enterShield {img : Bank} {reason : Option Reason} {l : Live}
    (high : ∀ x, l.air.index = some x → clearBelow img ≤ x) (n : Nat) :
    settleTimers img n (enterMode img .shield reason l) = enterMode img .shield reason l := by
  obtain ⟨mode, -, same⟩ := enterMode_mode img .shield reason l
  refine settleTimers_enterMode_calm ?_ ?_ ?_ n
  · simp [riseCondition_iff, mode]
  · simp [unknownCondition_iff, mode]
  · simpa [fallCondition_iff, mode, same] using high

/-! ### The latches and the timers of the controller -/

/-- STATUS_E shows none of the controller's timers, so a latch and a change of them may be exchanged. -/
theorem latch_withTimers (k : Kind) (n : Nat) (l : Live) (r u f : Timer) :
    latch k n { l with air := { l.air with rise := r, unknown := u, fall := f } } =
      { latch k n l with air := { l.air with rise := r, unknown := u, fall := f } } := by
  unfold latch askStatusE
  dsimp only
  repeat' split
  all_goals rfl

/-! ### The expiries -/

theorem purgeClean_iff (img : Bank) (haze : Presented) :
    purgeClean img haze = true ↔ haze.valid = false ∨ haze.value ≤ (clearBelow img : Int) := by
  simp [purgeClean]

theorem applyTests_fresh {l : Live} (mode : l.air.mode = .fresh) (img : Bank) (t : Trigger) :
    applyTests img t l = testsFresh img t l := by
  rw [applyTests, mode]

theorem applyTests_shield {l : Live} (mode : l.air.mode = .shield) (img : Bank) (t : Trigger) :
    applyTests img t l = testsShield img t l := by
  rw [applyTests, mode]

theorem applyTests_closedHaze {l : Live} (mode : l.air.mode = .closed) (reason : l.air.reason = some .haze) (img : Bank)
    (t : Trigger) : applyTests img t l = testsClosedHaze img t l := by
  simp only [applyTests, mode, reason]

theorem applyTests_closedManual {l : Live} (mode : l.air.mode = .closed) (reason : l.air.reason = some .manual) (img : Bank)
    (t : Trigger) : applyTests img t l = testsClosedManual img l := by
  simp only [applyTests, mode, reason]

theorem applyTests_purge {l : Live} (mode : l.air.mode = .purge) (img : Bank) (t : Trigger) :
    applyTests img t l = testsPurge img t l := by
  rw [applyTests, mode]

/-- A timer of the air source controller expires: the clock is at its time, and the expiry is taken. -/
theorem running_onExpiry {s : State} (free : s.held = false) {timer : Live → Timer} {e : Nat}
    (due : timer s.live = some e) {k : Live → Live} {m : Live} (h : k { s.live with now := max s.live.now e } = m) :
    (.next (s.running fun l => onExpiry (timer l) k l) : Result) = .next { s with live := m } := by
  rw [s.running_free _ free, due, ← h]
  rfl

section Evaluations

variable {img : Bank} {l : Live} (calm : ¬(seen img l recircSlot).isTrue = true)

include calm in
theorem evaluate_rise {x : Nat} (mode : l.air.mode = .fresh) (index : l.air.index = some x) (low : x < closeOn img)
    (high : clearBelow img ≤ x) : evaluate img .rise l = enterMode img .shield (some .haze) l := by
  rw [evaluate, applyTests_fresh mode, testsFresh, if_neg (not_atLeast index low), if_neg calm, if_pos rfl,
    settleTimers_enterShield fun y hy => ?_]
  cases index.symm.trans hy
  exact high

include calm in
theorem evaluate_unknown (mode : l.air.mode = .fresh) (index : l.air.index = none) :
    evaluate img .unknown l = enterMode img .shield (some .unknown) l := by
  rw [evaluate, applyTests_fresh mode, testsFresh, if_neg (not_atLeast_unknown index _), if_neg calm,
    if_neg Trigger.noConfusion, if_pos rfl, settleTimers_enterShield fun y hy => ?_]
  cases index.symm.trans hy

include calm in
theorem evaluate_fall_shield {x : Nat} (mode : l.air.mode = .shield) (index : l.air.index = some x)
    (low : x < closeOn img) (clear : x < shieldOn img) :
    evaluate img .fall l = enterMode img (if l.air.exposure then .purge else .fresh) none l := by
  rw [evaluate, applyTests_shield mode, testsShield, if_neg (not_atLeast index low), if_neg calm,
    if_neg fun h => not_atLeast index clear h.1, if_pos rfl]
  cases l.air.exposure with
  | true => exact settleTimers_enterPurge ..
  | false => exact settleTimers_enterFresh index clear _

include calm in
/-- The fall timer starts again at once in SHIELD where X stands below clear_below. -/
theorem evaluate_fall_closed (mode : l.air.mode = .closed) (reason : l.air.reason = some .haze)
    (dwell : fallDwell img ≠ 0) :
    evaluate img .fall l =
      let m := enterMode img .shield (some .haze) l
      let fall := if l.air.index.any (fun x => decide (x < clearBelow img)) then some (m.now + fallDwell img * 100) else none
      { m with air := { m.air with fall := fall } } := by
  let m := enterMode img .shield (some .haze) l
  obtain ⟨mode', -, same⟩ := enterMode_mode img .shield (some .haze) l
  have stopped : m.air.rise = none ∧ m.air.unknown = none ∧ m.air.fall = none := by
    simp only [m, enterMode_air]
    exact ⟨rfl, rfl, rfl⟩
  obtain ⟨rise, unknown, fall⟩ := stopped
  have notRise : ¬riseCondition img m.air = true := by simp [riseCondition_iff, m, mode']
  have notUnknown : ¬unknownCondition m.air = true := by simp [unknownCondition_iff, m, mode']
  have falls : fallCondition img m.air = l.air.index.any fun x => decide (x < clearBelow img) := by
    simp [fallCondition, Air.below, m, mode', same]
  rw [evaluate, applyTests_closedHaze mode reason, testsClosedHaze, if_pos rfl, if_neg calm,
    settleTimers_of_none (dueAtOnce_eq_none (fun c => absurd c notRise) (fun c => absurd c notUnknown)
      fun _ _ => dwell)]
  change { m with air := m.air.withTimers img m.now } = _
  simp only [Air.withTimers, conditionTimer_eq, if_neg notRise, if_neg notUnknown, falls, fall, Option.getD_none]
  congr 2
  · exact rise.symm
  · exact unknown.symm

theorem evaluate_fall_manual (asked : (seen img l recircSlot).isTrue = true) (mode : l.air.mode = .closed)
    (reason : l.air.reason = some .haze) :
    evaluate img .fall l = latch kModeChange (2 + 4 * 3)
      { l with air := { l.air with reason := some .manual, rise := none, unknown := none, fall := none } } := by
  have changed : changeReason .manual l =
      latch kModeChange (2 + 4 * 3) { l with air := { l.air with reason := some .manual, fall := none } } := by
    simp [changeReason, modeParameter, mode, Mode.code, reasonCode, show (Reason.manual == Reason.haze) = false from rfl]
  rw [evaluate, applyTests_closedHaze mode reason, testsClosedHaze, if_pos rfl, if_pos asked, changed]
  have calmed := settleTimers_calm (img := img)
    (l := latch kModeChange (2 + 4 * 3) { l with air := { l.air with reason := some .manual, fall := none } })
    (by simp [riseCondition_iff, mode]) (by simp [unknownCondition_iff, mode]) (by simp [fallCondition_iff, mode]) 4
  rw [calmed, latch_air]
  exact (latch_withTimers kModeChange _ { l with air := { l.air with reason := some .manual, fall := none } } ..).symm

section Purge

variable {x : Nat} (mode : l.air.mode = .purge) (index : l.air.index = some x) (low : x < closeOn img)
  (clear : x < shieldOn img)

include calm mode index low clear

/-- In PURGE with a clear index and no request the tests of the three triggers are left (R62). -/
theorem testsPurge_calm (t : Trigger) :
    applyTests img t l =
      if t = .purge then
        (if purgeClean img (seen img l cabHazeSlot) then enterMode img .fresh none l
         else { l with air := { l.air with purgeElapsed := true } })
      else if t = .cabHaze ∧ l.air.purgeElapsed ∧ purgeClean img (seen img l cabHazeSlot) then enterMode img .fresh none l
      else if t = .purgeLimit then latch kPurgeLimit (seen img l cabHazeSlot).value.toNat (enterMode img .fresh none l)
      else l := by
  rw [applyTests_purge mode, testsPurge]
  dsimp only
  rw [if_neg (not_atLeast index low), if_neg (not_atLeast index clear), if_neg (by simp [index]), if_neg calm]

theorem evaluate_purge_clean (clean : purgeClean img (seen img l cabHazeSlot) = true) :
    evaluate img .purge l = enterMode img .fresh none l := by
  rw [evaluate, testsPurge_calm calm mode index low clear, if_pos rfl, if_pos clean,
    settleTimers_enterFresh index clear]

theorem evaluate_purge_waits (notClean : ¬purgeClean img (seen img l cabHazeSlot) = true) :
    evaluate img .purge l =
      { l with air := { l.air with purgeElapsed := true, rise := none, unknown := none, fall := none } } := by
  rw [evaluate, testsPurge_calm calm mode index low clear, if_pos rfl, if_neg notClean]
  exact settleTimers_calm (l := { l with air := { l.air with purgeElapsed := true } }) (by simp [riseCondition_iff, mode])
    (by simp [unknownCondition_iff, mode]) (by simp [fallCondition_iff, mode]) 4

theorem evaluate_purgeLimit :
    evaluate img .purgeLimit l =
      latch kPurgeLimit (seen img l cabHazeSlot).value.toNat (enterMode img .fresh none l) := by
  obtain ⟨mode', -, same⟩ := enterMode_mode img .fresh none l
  rw [evaluate, testsPurge_calm calm mode index low clear, if_neg Trigger.noConfusion, if_neg (by simp), if_pos rfl]
  have calmed := settleTimers_calm (img := img)
    (l := latch kPurgeLimit (seen img l cabHazeSlot).value.toNat (enterMode img .fresh none l))
    (by simp [riseCondition_iff, same, index, clear]) (by simp [unknownCondition_iff, same, index])
    (by simp [fallCondition_iff, mode']) 4
  rw [calmed, latch_air]
  have stopped : { (enterMode img .fresh none l).air with rise := none, unknown := none, fall := none } =
      (enterMode img .fresh none l).air := by
    rw [enterMode_air]
    rfl
  rw [stopped, ← latch_air kPurgeLimit (seen img l cabHazeSlot).value.toNat (enterMode img .fresh none l)]

end Purge

end Evaluations

/-- Settles O22. -/
theorem modeTimersTakeTheirTransitions : Obligations.ModeTimersTakeTheirTransitions := by
  intro s e free img a l haze calm clean
  have calm_iff : calm ↔ ¬(seen img l recircSlot).isTrue = true := by rw [Bool.not_eq_true]; rfl
  have clean_iff : clean ↔ purgeClean img (seen img l cabHazeSlot) = true := (purgeClean_iff ..).symm
  refine ⟨fun mode timer quiet x index high low order => running_onExpiry free timer ?rise,
    fun mode timer quiet index => running_onExpiry free timer ?unknown,
    fun mode timer quiet x index low clear => running_onExpiry free timer ?fall,
    fun mode reason timer quiet dwell => running_onExpiry free timer ?closed,
    fun mode reason timer asked => running_onExpiry free timer ?manual, fun mode quiet x index low clear =>
      ⟨fun timer => ⟨fun isClean => running_onExpiry free timer ?purge,
        fun notClean => running_onExpiry free timer ?waits⟩, fun timer => running_onExpiry free timer ?limit⟩⟩
  case rise =>
    exact evaluate_rise (l := { l with air := { a with rise := none } }) (calm_iff.mp quiet) mode index low
      (Nat.le_trans order high)
  case unknown =>
    exact evaluate_unknown (l := { l with air := { a with unknown := none } }) (calm_iff.mp quiet) mode index
  case fall =>
    exact evaluate_fall_shield (l := { l with air := { a with fall := none } }) (calm_iff.mp quiet) mode index low clear
  case closed =>
    exact evaluate_fall_closed (l := { l with air := { a with fall := none } }) (calm_iff.mp quiet) mode reason dwell
  case manual =>
    exact evaluate_fall_manual (l := { l with air := { a with fall := none } })
      (Decidable.not_not.mp fun c => asked (calm_iff.mpr c)) mode reason
  case purge =>
    exact evaluate_purge_clean (l := { l with air := { a with purge := none } }) (calm_iff.mp quiet) mode index low clear
      (clean_iff.mp isClean)
  case waits =>
    exact evaluate_purge_waits (l := { l with air := { a with purge := none } }) (calm_iff.mp quiet) mode index low clear
      fun c => notClean (clean_iff.mpr c)
  case limit =>
    exact evaluate_purgeLimit (l := { l with air := { a with purgeLimit := none } }) (calm_iff.mp quiet) mode index low
      clear

end Sys2Proof.Machine


/-! The notices of the air source controller and its evaluation (R53 to R66). -/

namespace Sys2Proof.Machine

/-! ### The reader of each slot (R33, R37) -/

theorem hazeSlot_apart : ∀ k : Fin 4, hazeSlot k ≠ outTempSlot ∧ hazeSlot k ≠ batterySlot ∧ hazeSlot k ≠ ignitionSlot ∧
    17 ≤ (hazeSlot k).val ∧ (hazeSlot k).val ≤ 20 := by decide

theorem notify_hazeSlot (img : Bank) (k : Fin 4) (l : Live) : notify img (hazeSlot k) l = hazeNotice img l := by
  obtain ⟨out, battery, ignition, range⟩ := hazeSlot_apart k
  rw [notify, if_neg out, if_neg battery, if_neg ignition, if_pos range]

theorem notify_outTempSlot (img : Bank) (l : Live) : notify img outTempSlot l = reworkFraction img l := rfl
theorem notify_batterySlot (img : Bank) (l : Live) : notify img batterySlot l = batteryNotice img l := rfl
theorem notify_ignitionSlot (img : Bank) (l : Live) : notify img ignitionSlot l = ignitionNotice img l := rfl
theorem notify_entrySlot (img : Bank) (l : Live) : notify img entrySlot l = entryNotice img l := rfl
theorem notify_recircSlot (img : Bank) (l : Live) : notify img recircSlot l = recircNotice img l := rfl
theorem notify_pressureSlot (img : Bank) (l : Live) : notify img pressureSlot l = pressureNotice img l := rfl
theorem notify_cabHazeSlot (img : Bank) (l : Live) : notify img cabHazeSlot l = cabHazeNotice img l := rfl

/-! ### What the notices do before the evaluation -/

theorem formIndex_eq (img : Bank) (l : Live) :
    formIndex img l =
      let formed : Live := { l with air := { l.air with index := indexNow img l } }
      if l.air.index ≠ none ∧ indexNow img l = none then latch kContamUnknown l.air.mode.code formed else formed := by
  have lost : (l.air.index.isSome && (indexNow img l).isNone) = true ↔ l.air.index ≠ none ∧ indexNow img l = none := by
    simp [Option.isSome_iff_ne_none]
  exact ite_of_iff lost rfl rfl

theorem testIngress_eq (img : Bank) (l : Live) :
    testIngress img l =
      let haze := presented img l.slots cabHazeSlot
      let ingress := decide (l.air.mode = .closed) && haze.valid && decide ((ingressLimit img : Int) < haze.value)
      let tested : Live := { l with air := { l.air with cabIngress := ingress } }
      if ingress = true ∧ l.air.cabIngress = false then latch kCabIngress haze.value.toNat tested else tested := by
  have risen (x y : Bool) : (x && !y) = true ↔ x = true ∧ y = false := by simp
  have defog : ¬(l.air.defogLimited && !l.air.defogLimited) = true := by simp
  unfold testIngress latchRisen
  dsimp only
  rw [if_neg defog]
  exact ite_of_iff (risen ..) rfl rfl

theorem freshFraction_eq (img : Bank) (copy : Bool) (out : Presented) :
    freshFraction img copy out = if copy then 1000
      else if out.valid ∧ (out.value < coldLimit img ∨ hotLimit img < out.value) then freshMin img
      else freshNominal img := rfl

theorem reworkFraction_eq (img : Bank) (l : Live) :
    reworkFraction img l =
      let f := freshFraction img l.air.defrostCopy (presented img l.slots outTempSlot)
      if l.air.mode = .fresh ∧ f ≠ l.air.fraction then
        issueTargets img { l with air := { l.air with fraction := f, intake := f, filter := 0, recirc := 1000 - f } }
      else l := by
  have targets (fresh : l.air.mode = .fresh) (f : Nat) : Air.withTargets img { l.air with fraction := f } =
      { l.air with fraction := f, intake := f, filter := 0, recirc := 1000 - f } := by
    simp [Air.withTargets, modeTargets, fresh]
  unfold reworkFraction
  dsimp only
  by_cases fresh : l.air.mode = .fresh
  · rw [if_pos fresh]
    by_cases same : freshFraction img l.air.defrostCopy (seen img l outTempSlot) = l.air.fraction
    · rw [if_pos same, if_neg fun h => h.2 same]
    · rw [if_neg same, if_pos ⟨fresh, same⟩, targets fresh]
      rfl
  · rw [if_neg fresh, if_neg fun h => fresh h.1]

theorem changeReason_eq (reason : Reason) (l : Live) (a : Air)
    (h : a = { l.air with reason := some reason, exposure := l.air.exposure || reason == .haze, fall :=
      if reason = .haze then l.air.fall else none }) :
    changeReason reason l = latch kModeChange (a.mode.code + 4 * reasonCode a.reason) { l with air := a } := by
  subst h
  rfl

theorem takeTransition_rise {img : Bank} {l : Live} (mode : l.air.mode = .fresh) :
    takeTransition img .rise l = enterMode img .shield (some .haze) l := by
  simp only [takeTransition, mode]

theorem takeTransition_unknown {img : Bank} {l : Live} (mode : l.air.mode = .fresh) :
    takeTransition img .unknown l = enterMode img .shield (some .unknown) l := by
  simp only [takeTransition, mode]

theorem enterMode_ite (img : Bank) (c : Bool) (m n : Mode) (r : Option Reason) (l : Live) :
    (if c then enterMode img m r l else enterMode img n r l) = enterMode img (if c then m else n) r l := by
  cases c <;> rfl

theorem takeTransition_fall_shield {img : Bank} {l : Live} (mode : l.air.mode = .shield) :
    takeTransition img .fall l = enterMode img (if l.air.exposure then .purge else .fresh) none l := by
  simp only [takeTransition, mode, enterMode_ite]

theorem changeReason_manual (l : Live) :
    changeReason .manual l =
      latch kModeChange (l.air.mode.code + 4 * 3) { l with air := { l.air with reason := some .manual, fall := none } } :=
  changeReason_eq .manual l { l.air with reason := some .manual, fall := none }
    (by simp [show (Reason.manual == Reason.haze) = false from rfl])

theorem takeTransition_fall_closed {img : Bank} {l : Live} (mode : l.air.mode = .closed) :
    takeTransition img .fall l =
      if (presented img l.slots recircSlot).isTrue = true
      then latch kModeChange (2 + 4 * 3) { l with air := { l.air with reason := some .manual, fall := none } }
      else enterMode img .shield (some .haze) l := by
  have changed := changeReason_manual l
  rw [mode] at changed
  have taken : takeTransition img .fall l = testsClosedHaze img .fall l := by simp only [takeTransition, mode]
  rw [taken, testsClosedHaze, if_pos rfl, changed]
  rfl

theorem dueAtOnce_rise {img : Bank} {a : Air} (c : riseCondition img a = true) (stopped : a.rise = none)
    (zero : riseDwell img = 0) : dueAtOnce img a = some .rise :=
  if_pos ⟨c, stopped, zero⟩

theorem dueAtOnce_unknown {img : Bank} {a : Air} (c : unknownCondition a = true) (stopped : a.unknown = none)
    (zero : unknownDwell img = 0) : dueAtOnce img a = some .unknown := by
  have notRise : ¬riseCondition img a = true := by simp [riseCondition_iff, ((unknownCondition_iff a).mp c).2]
  rw [dueAtOnce, if_neg fun h => notRise h.1, if_pos ⟨c, stopped, zero⟩]

theorem dueAtOnce_fall {img : Bank} {a : Air} (c : fallCondition img a = true) (stopped : a.fall = none)
    (zero : fallDwell img = 0) : dueAtOnce img a = some .fall := by
  have notFresh : a.mode ≠ .fresh := by
    obtain ⟨mode, -⟩ | ⟨mode, -⟩ := (fallCondition_iff img a).mp c <;> simp [mode]
  rw [dueAtOnce, if_neg fun h => notFresh ((riseCondition_iff img a).mp h.1).1,
    if_neg fun h => notFresh ((unknownCondition_iff a).mp h.1).1, if_pos ⟨c, stopped, zero⟩]

/-! ### Boost and floor (R64, R65) -/

theorem entryNotice_entered {img : Bank} {l : Live} (entered : (seen img l entrySlot).isTrue = true) :
    entryNotice img l =
      { l with air := if l.air.mode.isSealed then { l.air with boost := .active, boostTail := none } else l.air } := by
  simp [entryNotice, boostAtNotice, entered]

theorem entryNotice_left {img : Bank} {l : Live} (left : ¬(seen img l entrySlot).isTrue = true) (active : l.air.boost = .active) :
    entryNotice img l =
      { l with air := if boostTailTime img = 0 then { l.air with boost := .off }
        else { l.air with boost := .tail, boostTail := some (l.now + boostTailTime img * 100) } } := by
  simp [entryNotice, boostAtNotice, left, active]

theorem entryNotice_idle {img : Bank} {l : Live} (left : ¬(seen img l entrySlot).isTrue = true) (idle : l.air.boost ≠ .active) :
    entryNotice img l = l := by
  cases boost : l.air.boost with
  | active => exact absurd boost idle
  | off => simp [entryNotice, boostAtNotice, left, boost]
  | tail => simp [entryNotice, boostAtNotice, left, boost]

theorem limitFloor (moved low : Nat) :
    min (max moved low) 1000 = if moved < low then min low 1000 else min moved 1000 := by
  split
  · rw [Nat.max_eq_right (by omega)]
  · rw [Nat.max_eq_left (by omega)]

/-- Settles O23. -/
theorem airSourceControllerFollowsItsNotices : Obligations.AirSourceControllerFollowsItsNotices := by
  refine ⟨fun img l => ⟨fun k => ?haze, rfl, ?cabHaze, ?outTemp⟩, fun img t l => ⟨rfl, fun mode => ?fresh, fun mode => ?shield,
    fun mode reason => ?closedHaze, fun mode reason => ?closedManual, fun mode => ?purge⟩, fun img n l =>
      ⟨fun rise unknown fall => ?timed, ?rises, ?unknowns, ?fallsShield, ?fallsClosed⟩, fun img l =>
      ⟨fun entered shut => ?entered, fun entered open' => ?stays, fun left active => ?left, fun left idle => ?idle⟩,
      fun s e free timer tail => ?tail, fun img l => ?pressure⟩
  case haze => rw [notify_hazeSlot, hazeNotice, formIndex_eq]
  case cabHaze => rw [notify_cabHazeSlot, cabHazeNotice, testIngress_eq]
  case outTemp => exact (notify_outTempSlot ..).trans (reworkFraction_eq ..)
  case fresh =>
    rw [applyTests_fresh mode, testsFresh]
    exact ite_of_iff (atLeast_iff ..) rfl rfl
  case shield =>
    have changed := changeReason_eq .haze l { l.air with reason := some .haze, exposure := true } (by simp)
    rw [applyTests_shield mode, testsShield, changed, enterMode_ite]
    exact ite_of_iff (atLeast_iff ..) rfl (ite_of_iff Iff.rfl rfl (ite_of_iff (and_congr_left' (atLeast_iff ..)) rfl rfl))
  case closedHaze =>
    rw [applyTests_closedHaze mode reason, testsClosedHaze, changeReason_manual]
    split
    · rename_i fall
      exact (if_neg (Decidable.not_not.mpr fall)).symm
    · rfl
  case closedManual =>
    have changed := changeReason_eq .haze l { l.air with reason := some .haze, exposure := true } (by simp)
    rw [applyTests_closedManual mode reason, testsClosedManual, changed]
    exact ite_of_iff (atLeast_iff ..) rfl (ite_of_iff Iff.rfl rfl (ite_of_iff (or_congr_left (atLeast_iff ..)) rfl rfl))
  case purge =>
    rw [applyTests_purge mode, testsPurge]
    have clean := purgeClean_iff img (seen img l cabHazeSlot)
    exact ite_of_iff (atLeast_iff ..) rfl (ite_of_iff (atLeast_iff ..) rfl (ite_of_iff Iff.rfl rfl (ite_of_iff Iff.rfl rfl
      (ite_of_iff Iff.rfl (ite_of_iff clean rfl rfl) (ite_of_iff (and_congr_right' (and_congr_right' clean)) rfl rfl)))))
  case timed =>
    rw [settleTimers_of_none (dueAtOnce_eq_none (fun c => rise ((riseCondition_iff ..).mp c))
      (fun c => unknown ((unknownCondition_iff _).mp c)) fun c => fall ((fallCondition_iff ..).mp c))]
    simp only [Air.withTimers, conditionTimer_eq, riseCondition_iff, unknownCondition_iff, fallCondition_iff]
  case rises =>
    intro rises stopped zero
    rw [settleTimers_of_due (dueAtOnce_rise ((riseCondition_iff ..).mpr rises) stopped zero), takeTransition_rise rises.1]
  case unknowns =>
    intro unknown stopped zero
    rw [settleTimers_of_due (dueAtOnce_unknown ((unknownCondition_iff _).mpr unknown) stopped zero),
      takeTransition_unknown unknown.1]
  case fallsShield =>
    intro falls stopped zero mode
    rw [settleTimers_of_due (dueAtOnce_fall ((fallCondition_iff ..).mpr falls) stopped zero),
      takeTransition_fall_shield mode]
  case fallsClosed =>
    intro falls stopped zero mode
    rw [settleTimers_of_due (dueAtOnce_fall ((fallCondition_iff ..).mpr falls) stopped zero),
      takeTransition_fall_closed mode]
  case entered => rw [notify_entrySlot, entryNotice_entered entered, if_pos ((isSealed_iff _).mpr shut)]
  case stays => rw [notify_entrySlot, entryNotice_entered entered, if_neg fun sealed => open' ((isSealed_iff _).mp sealed)]
  case left => exact (notify_entrySlot ..).trans (entryNotice_left left active)
  case idle => exact (notify_entrySlot ..).trans (entryNotice_idle left idle)
  case tail =>
    refine running_onExpiry free timer ?_
    simp [boostTailExpires, tail]
  case pressure =>
    rw [notify_pressureSlot, pressureNotice]
    simp only [floorStep, limitFloor]
    rfl

end Sys2Proof.Machine


/-! The arbiter's choice and the frames of the cab link (R139 to R141, R151). -/

namespace Sys2Proof.Machine

/-! ### The arbiter (R151) -/

theorem before_iff (a b : LinkRequest) : a.before b = true ↔
    a.cls.order < b.cls.order ∨ (a.cls.order = b.cls.order ∧
      (a.joined < b.joined ∨ (a.joined = b.joined ∧ a.address < b.address))) := by
  simp [LinkRequest.before]

theorem before_eq_false (a b : LinkRequest) : a.before b = false ↔
    ¬(a.cls.order < b.cls.order ∨ (a.cls.order = b.cls.order ∧
      (a.joined < b.joined ∨ (a.joined = b.joined ∧ a.address < b.address)))) := by
  rw [← before_iff, Bool.not_eq_true]

theorem chooseRequest_eq_none {list : List LinkRequest} : chooseRequest list = none ↔ list = [] := by
  cases list with
  | nil => simp [chooseRequest]
  | cons a rest =>
    refine iff_of_false ?_ (List.cons_ne_nil a rest)
    rw [chooseRequest]
    split
    · simp
    · split <;> simp

/-- The request stands behind those it goes before and ahead of those that do not go before it. -/
def IsFirst (r : LinkRequest) (list : List LinkRequest) : Prop :=
  ∃ earlier later, list = earlier ++ r :: later ∧ (∀ q ∈ earlier, r.before q = true) ∧
    ∀ q ∈ later, q.before r = false

/-- A request that gives way to none of the rest is first; the order of the rest is a weak one. -/
theorem isFirst_cons_of_not_before {a q : LinkRequest} {rest : List LinkRequest} (first : IsFirst q rest)
    (stays : q.before a = false) : IsFirst a (a :: rest) := by
  obtain ⟨earlier, later, rfl, front, back⟩ := first
  refine ⟨[], earlier ++ q :: later, rfl, by simp, fun x member => ?_⟩
  rw [before_eq_false] at stays ⊢
  rcases List.mem_append.1 member with member | member
  · have := (before_iff q x).1 (front x member)
    omega
  · rcases List.mem_cons.1 member with rfl | member
    · exact stays
    · have := (before_eq_false x q).1 (back x member)
      omega

theorem isFirst_of_chooseRequest {r : LinkRequest} : ∀ list : List LinkRequest, chooseRequest list = some r →
    IsFirst r list
  | [], chosen => by simp [chooseRequest] at chosen
  | a :: rest, chosen => by
    rw [chooseRequest] at chosen
    match found : chooseRequest rest with
    | none =>
      rw [found] at chosen
      obtain rfl : a = r := Option.some.inj chosen
      obtain rfl := chooseRequest_eq_none.1 found
      exact ⟨[], [], rfl, by simp, by simp⟩
    | some q =>
      have first := isFirst_of_chooseRequest rest found
      rw [found] at chosen
      match ahead : q.before a with
      | true =>
        obtain rfl : q = r := by simpa [ahead] using chosen
        obtain ⟨earlier, later, rfl, front, back⟩ := first
        exact ⟨a :: earlier, later, rfl, by simpa [ahead] using front, back⟩
      | false =>
        obtain rfl : a = r := by simpa [ahead] using chosen
        exact isFirst_cons_of_not_before first ahead

theorem mem_of_chooseRequest {r : LinkRequest} {list : List LinkRequest} (chosen : chooseRequest list = some r) :
    r ∈ list := by
  obtain ⟨earlier, later, rfl, -, -⟩ := isFirst_of_chooseRequest list chosen
  simp

theorem chooseRequest_of_isFirst {r : LinkRequest} {later : List LinkRequest} (back : ∀ q ∈ later, q.before r = false) :
    ∀ earlier : List LinkRequest, (∀ q ∈ earlier, r.before q = true) →
      chooseRequest (earlier ++ r :: later) = some r
  | [], _ => by
    rw [List.nil_append, chooseRequest]
    match found : chooseRequest later with
    | none => rfl
    | some q => simp [back q (mem_of_chooseRequest found)]
  | a :: earlier, front => by
    rw [List.cons_append, chooseRequest,
      chooseRequest_of_isFirst back earlier fun q member => front q (List.mem_cons_of_mem a member)]
    simp [front a List.mem_cons_self]

theorem chooseRequest_iff (list : List LinkRequest) (r : LinkRequest) :
    chooseRequest list = some r ↔ IsFirst r list := by
  refine ⟨isFirst_of_chooseRequest list, ?_⟩
  rintro ⟨earlier, later, rfl, front, back⟩
  exact chooseRequest_of_isFirst back earlier front

theorem arbitrate_takes {l : Live} {r : LinkRequest} (up : l.link.state = .running) (free : l.link.onLink = none)
    (chosen : chooseRequest l.link.requests = some r) :
    arbitrate l = { l with link := { l.link with
      onLink := some r, requests := l.link.requests.erase r, sent := false, replyWindow := none } } := by
  simp [arbitrate, up, free, chosen]

theorem arbitrate_waits {l : Live} (no : l.link.state ≠ .running ∨ l.link.onLink ≠ none ∨ l.link.requests = []) :
    arbitrate l = l := by
  rw [arbitrate]
  split
  next free =>
    obtain ⟨up, idle⟩ := free
    have empty : l.link.requests = [] := by
      rcases no with no | no | no
      · exact absurd up no
      · exact absurd (Option.isNone_iff_eq_none.1 idle) no
      · exact no
    rw [empty, chooseRequest]
  next => rfl

/-- Settles O36. -/
theorem arbiterTakesTheFirstByClassAndTime : Obligations.ArbiterTakesTheFirstByClassAndTime :=
  ⟨before_iff, rfl, chooseRequest_iff, fun _ _ up free chosen => arbitrate_takes up free chosen,
    fun _ no => arbitrate_waits no, fun _ _ _ _ _ => rfl⟩

/-! ### Frames on the wire (R139) -/

theorem sumOf_append (a b : List Byte) : sumOf (a ++ b) = sumOf a + sumOf b := by
  induction a with
  | nil => simp [sumOf]
  | cons v rest ih => simp [sumOf, ih, Nat.add_assoc]

theorem sumOf_checkByte (body : List Byte) : sumOf (body ++ [checkByte (sumOf body)]) % 256 = 0 := by
  have : (checkByte (sumOf body)).toNat = (256 - sumOf body % 256) % 256 :=
    toNat_byte (decide_eq_true (Nat.mod_lt _ (by decide)))
  simp only [sumOf_append, sumOf, this]
  omega

theorem registerBytes_length (wide : Bool) (register : Nat) : (registerBytes wide register).length ≤ 2 := by
  cases wide <;> simp [registerBytes, linkBytes16]

theorem payload_length (c : LinkCommand) (short : ∀ wide register data, c = .write wide register data → data.length ≤ 16) :
    c.payload.length ≤ 19 := by
  cases c with
  | write wide register data =>
    have register := registerBytes_length wide register
    have data := short _ _ _ rfl
    simp only [LinkCommand.payload, List.length_append, List.length_cons]
    omega
  | read wide register count =>
    have register := registerBytes_length wide register
    simp only [LinkCommand.payload, List.length_append, List.length_cons, List.length_nil]
    omega
  | rollcall reset => cases reset <;> simp [LinkCommand.payload]
  | _ => simp [LinkCommand.payload, linkBytes16]

theorem wire_eq (r : LinkRequest) : r.wire =
    byte r.address :: byte r.command.code :: byte r.command.payload.length :: (r.command.payload ++
      [checkByte (sumOf ([byte r.address, byte r.command.code, byte r.command.payload.length] ++ r.command.payload))]) :=
  rfl

/-! ### Replies (R140, R141) -/

theorem replySound_iff (r : LinkReply) : replySound r = true ↔
    r.payload.length = r.length.toNat ∧
      (r.status.toNat + r.length.toNat + sumOf r.payload + r.check.toNat) % 256 = 0 := by
  simp [replySound]

theorem replyEnding_unsound {r : LinkReply} (unsound : ¬replySound r = true) (c : LinkCommand) :
    replyEnding c r = .failure := by
  simp [replyEnding, unsound]

/-- Settles O37. -/
theorem linkFramesAreSummedAndJudged : Obligations.LinkFramesAreSummedAndJudged := by
  refine ⟨fun r => ⟨⟨_, wire_eq r⟩, sumOf_checkByte _, fun short => ?_⟩, fun c r => ⟨fun unsound => ?_, fun sound => ?_⟩⟩
  · have := payload_length r.command short
    simp only [wire_eq, List.length_cons, List.length_append, List.length_nil]
    omega
  · exact replyEnding_unsound (mt (replySound_iff r).1 unsound) c
  · have sound := (replySound_iff r).2 sound
    refine ⟨?_, ?_, ?_, ?_, ?_⟩
    · rintro serial address rfl
      simp [replyEnding, sound]
    · rintro (⟨ch, p, rfl⟩ | ⟨ch, rfl⟩ | ⟨ch, v, rfl⟩ | ⟨w, a, d, rfl⟩) <;>
        simp [replyEnding, sound, refusalEnding]
    · rintro ch rfl
      exact (if_neg (by simp [sound])).trans (ite_not _ _ _).symm
    · rintro ch rfl
      exact (if_neg (by simp [sound])).trans (ite_not _ _ _).symm
    · rintro wide register count rfl
      exact (if_neg (by simp [sound])).trans (ite_not _ _ _).symm

end Sys2Proof.Machine


/-! The computation of a planned zone (R82 to R89). -/

namespace Sys2Proof.Machine

theorem clamp_range {x a b : Int} (ordered : a ≤ b) : a ≤ clamp x a b ∧ clamp x a b ≤ b := by
  unfold clamp
  omega

/-- The quotient is the nearest integer with halves up. -/
theorem divHalfUp_nearest (n : Int) {d : Int} (positive : 0 < d) :
    2 * d * divHalfUp n d ≤ 2 * n + d ∧ 2 * n + d < 2 * d * (divHalfUp n d + 1) :=
  ⟨Int.mul_ediv_self_le (by omega), by
    have := Int.lt_mul_ediv_self_add (x := 2 * n + d) (k := 2 * d) (by omega)
    rw [divHalfUp, Int.mul_add, Int.mul_one]
    exact this⟩

/-- The blend of a demand between Tc and Th is that fraction in thousandths, so at most 1000 (R86). -/
theorem divHalfUp_thousandths {n d : Int} (positive : 0 < d) (low : 0 ≤ n) (high : n ≤ d) :
    0 ≤ divHalfUp (1000 * n) d ∧ divHalfUp (1000 * n) d ≤ 1000 := by
  obtain ⟨below, above⟩ := divHalfUp_nearest (1000 * n) positive
  have lower : 2 * d * 0 < 2 * d * (divHalfUp (1000 * n) d + 1) := by omega
  have upper : 2 * d * divHalfUp (1000 * n) d < 2 * d * 1001 := by omega
  have least := Int.lt_of_mul_lt_mul_left lower (by omega)
  have most := Int.lt_of_mul_lt_mul_left upper (by omega)
  omega

theorem min_max_eq_ite {x a b : Nat} (ordered : a ≤ b) :
    min (max x a) b = if x < a then a else if b < x then b else x := by
  repeat' split
  all_goals omega

theorem max_eq_ite (x y : Nat) : max x y = if x < y then y else x := by
  repeat' split
  all_goals omega

theorem blowerTarget_eq (c : PassContext) (pr : Profile) (z : Fin 4) (level : Nat) :
    blowerTarget c pr z level =
      let boosted := if c.boosting = true ∧ z ≠ 3 ∧ level < c.boostLevel then c.boostLevel else level
      let floored := if c.mode = .shield ∧ boosted < c.shieldFloor then c.shieldFloor else boosted
      let wanted := if (c.defrost = true ∧ z = 0) ∨ c.mode = .purge then pr.wmax else floored
      if wanted < 1000 then wanted else 1000 := by
  have merge : ∀ (p : Prop) [Decidable p] (x y : Nat), (if p then max x y else x) = if p ∧ x < y then y else x := by
    intro p _ x y
    by_cases holds : p <;> simp [holds, max_eq_ite]
  simp only [blowerTarget, merge, and_assoc, Nat.min_def]
  repeat' split
  all_goals omega

theorem fanLevel_eq {pr : Profile} (ordered : pr.wmin ≤ pr.wmax) (e : Int) (fan : Presented) :
    fanLevel pr e fan =
      let limited := fun w : Nat => if w < pr.wmin then pr.wmin else if pr.wmax < w then pr.wmax else w
      if fan.valid = true ∧ 0 < fan.value then limited fan.value.toNat else limited (pr.wmin + pr.gw * e.natAbs / 8) := by
  simp only [fanLevel, min_max_eq_ite ordered]

/-- Settles O25. -/
theorem plannedZoneFollowsTheRules : Obligations.PlannedZoneFollowsTheRules := by
  intro c pr z cab request fan old ordered
  have demandRange : c.tc ≤ (planZone c pr z cab request fan old).1.demand ∧
      (planZone c pr z cab request fan old).1.demand ≤ c.th := by
    unfold planZone
    dsimp only
    split
    · exact ⟨ordered, Int.le_refl _⟩
    · exact clamp_range ordered
  intro frozen s diff e p sum candidate test i raw limited level boosted floored wanted r
  have setpoint : zoneSetpoint pr request = s := rfl
  have error : zoneError s cab = e := by
    cases valid : cab.valid <;> simp [zoneError, clamp, e, diff, valid]
  have freezes : (c.defrost && z == 0) = decide frozen := by
    simp only [frozen, Bool.decide_and, Bool.decide_eq_true]
    rfl
  have integrator : r.1.integrator = i := by
    simp only [r, planZone, setpoint, error, freezes, steppedIntegrator]
    by_cases valid : cab.valid = false
    · simp [i, valid]
    · by_cases ices : frozen
      · simp [i, ices]
      · have stepped : i = steppedIntegrator pr c.tc c.th s old.integrator e :=
          ite_of_iff (by rw [or_iff_right valid, or_iff_right ices]; rfl) rfl rfl
        rw [stepped]
        simp [valid, ices, steppedIntegrator]
  have demanded : r.2 = raw := by
    have := integrator
    simp only [r, planZone, setpoint, error] at this
    simp only [r, planZone, setpoint, error, this]
    cases valid : cab.valid <;> simp [raw, valid, p, proportional]
  have span : r.1.blend = blendTarget c r.1.demand old.blend := rfl
  refine ⟨demanded, integrator, ?_, rfl, rfl, freezes, ?_, ?_, ?_, ?_⟩
  · rw [← demanded]
    simp only [r, planZone, freezes, decide_eq_true_eq, clamp]
  · intro floors
    calc r.1.level = blowerTarget c pr z (fanLevel pr (zoneError s cab) fan) := rfl
      _ = if wanted < 1000 then wanted else 1000 := by
        rw [error, fanLevel_eq floors, blowerTarget_eq]
  · calc r.1.outlet = outletTarget c z r.1.demand s := rfl
      _ = _ := rfl
  · intro narrow
    refine ⟨decide_eq_true narrow, ?_⟩
    rw [span, blendTarget, if_neg (by omega)]
  · intro wide least
    obtain ⟨low, high⟩ : c.tc ≤ r.1.demand ∧ r.1.demand ≤ c.th := demandRange
    have positive : 0 < c.th - c.tc := by omega
    obtain ⟨least, most⟩ := divHalfUp_thousandths (n := r.1.demand - c.tc) positive (by omega) (by omega)
    obtain ⟨below, above⟩ := divHalfUp_nearest (1000 * (r.1.demand - c.tc)) positive
    rw [span, blendTarget, if_pos wide, Int.toNat_of_nonneg least]
    exact ⟨decide_eq_false (by omega), by omega, by omega, by omega⟩

end Sys2Proof.Machine


/-! The load budget (chapter 6): stages and motions at the budget, and shedding. -/

namespace Sys2Proof.Machine

/-! ### Stages and motions (R100, R101) -/

theorem isBlower_eq_false {r : Role} (stage : 16 ≤ r.val) : isBlower r = false :=
  decide_eq_false fun range => Nat.not_lt.2 stage range.2

theorem isStage_eq_true {r : Role} (stage : 16 ≤ r.val) : isStage r = true := decide_eq_true stage

theorem loadOf_of_stage {r : Role} (stage : 16 ≤ r.val) (img : Bank) (level : Nat) :
    loadOf img r level = if level = 0 then 0 else stageCurrent img := by
  simp [loadOf, isBlower_eq_false stage, isStage_eq_true stage]

theorem askSet_of_stage {r : Role} (stage : 16 ≤ r.val) (img : Bank) (level : Nat) (b : Budget) :
    askSet img r level b = askStage img r level b := by
  simp [askSet, isBlower_eq_false stage]

theorem askStage_answers (img : Bank) (r : Role) (level : Nat) (b : Budget) :
    (askStage img r level b).1 = .admitted ∨ (askStage img r level b).1 = .wait := by
  unfold askStage
  dsimp only
  split
  · exact .inr rfl
  · exact .inl rfl

/-- What a role's consumer becomes, and nothing else of the budget. -/
theorem onConsumer_eq (b : Budget) (r : Role) (f : Consumer → Consumer) :
    b.onConsumer r f = { b with consumers := b.consumers.set r (f (b.consumers.get r)) } := rfl

theorem askMotion_counted {img : Bank} {r : Role} {b : Budget}
    (counted : (b.consumers.get r).commitment ≠ 0 ∨ (b.consumers.get r).commitment = motionCurrent img) :
    askMotion img r b = (.admitted, b) :=
  if_pos counted

theorem askMotion_uncounted {img : Bank} {r : Role} {b : Budget} (uncounted : (b.consumers.get r).commitment = 0)
    (draws : motionCurrent img ≠ 0) :
    askMotion img r b = if b.committed + motionCurrent img ≤ b.avail then
      (.admitted, b.onConsumer r fun c => { c with commitment := motionCurrent img }) else (.wait, b) :=
  if_neg (not_or.2 ⟨not_not_intro uncounted, fun same => draws (same.symm.trans uncounted)⟩)

/-- A consumer written back as it was. -/
theorem set_get_same {α : Type} {n : Nat} (v : Vector α n) (i : Fin n) : v.set i (v.get i) = v := by
  simp [get_eq]

/-- Settles O28. -/
theorem stagesAndMotionsAreAdmittedWhole : Obligations.StagesAndMotionsAreAdmittedWhole := by
  refine ⟨fun img r b stage => ?_, fun img r b => ?_⟩
  · intro c
    refine ⟨fun off fits => ?_, fun off exceeds => ?_, ?_, fun level w => ?_⟩
    · intro new
      have counted : admitLevel img r 1000 c = new := by simp [admitLevel, loadOf_of_stage stage, off, new]
      rw [askSet_of_stage stage, ← counted]
      exact if_neg fun waits => Nat.not_lt.2 fits waits.2.2
    · rw [askSet_of_stage stage]
      exact if_pos ⟨by decide, off, exceeds⟩
    · intro new
      have counted : admitLevel img r 0 c = new := by simp [admitLevel, loadOf_of_stage stage, new]
      rw [askSet_of_stage stage, ← counted]
      simp [askStage, onConsumer_eq, c]
    · rw [askSet_of_stage stage]
      rcases askStage_answers img r level b with answer | answer <;> simp [answer]
  · intro c
    refine ⟨askMotion_counted, fun uncounted fits => ?_, fun uncounted draws exceeds => ?_⟩
    · by_cases draws : motionCurrent img = 0
      · have same : ({ c with commitment := motionCurrent img } : Consumer) = b.consumers.get r := by
          rw [draws, ← uncounted]
        rw [askMotion_counted (.inr (uncounted.trans draws.symm)), same, set_get_same, draws]
        exact ⟨rfl, rfl, rfl⟩
      · rw [askMotion_uncounted uncounted draws, if_pos fits]
        exact ⟨rfl, rfl, (committed_set b r _).trans (by rw [show (b.consumers.get r).commitment = 0 from uncounted]; rfl)⟩
    · rw [askMotion_uncounted uncounted draws, if_neg (Nat.not_le.2 exceeds)]

/-! ### The band and avail (R98) -/

theorem workOutAvail_eq (img : Bank) (l : Live) :
    workOutAvail img l =
      let p := presented img l.slots batterySlot
      let band : Band := if p.valid = false then .unknown
        else if (bandHi img : Int) ≤ p.value then .high
        else if (bandMid img : Int) ≤ p.value then .mid
        else if (bandLo img : Int) ≤ p.value then .low
        else .critical
      { l with budget := { l.budget with band := band, avail := baseBudget img * band.percent / 100 } } := by
  have band (p : Presented) : voltageBand img p = if p.valid = false then .unknown
      else if (bandHi img : Int) ≤ p.value then .high
      else if (bandMid img : Int) ≤ p.value then .mid
      else if (bandLo img : Int) ≤ p.value then .low
      else .critical := by
    cases valid : p.valid <;> simp [voltageBand, valid]
  simp only [workOutAvail, band, seen, availFor]

theorem batteryNotice_eq (img : Bank) (l : Live) :
    batteryNotice img l =
      let worked := workOutAvail img l
      if worked.budget.avail = l.budget.avail then worked
      else if l.budget.avail < worked.budget.avail then testShed img (roomNotice img worked)
      else testShed img worked := by
  unfold batteryNotice
  dsimp only
  rw [apply_ite (testShed img)]

/-! ### Shedding (R105, R106) -/

theorem passedOver_iff (l : Live) (r : Role) : passedOver l r = true ↔
    l.part.state = .watch ∨ (∃ e ∈ l.budget.shedList, e.role = r) ∨ (l.sequencer.actuators.get r).state = .offline ∨
      (l.sequencer.actuators.get r).state = .faulted ∨ (l.sequencer.actuators.get r).state = .absent ∨
      (l.sequencer.actuators.get r).state = .uncertain ∨
      ∃ t, (l.budget.consumer r).transit = some t ∧ (l.budget.consumer r).accepted < t := by
  have listed : (l.budget.shedEntry r).isSome = true ↔ ∃ e ∈ l.budget.shedList, e.role = r := by
    simp [Budget.shedEntry]
  simp only [passedOver, Bool.or_eq_true, beq_iff_eq, listed, actuator, or_assoc]
  refine or_congr_right (or_congr_right ?_)
  cases (l.sequencer.actuators.get r).state <;> cases (l.budget.consumer r).transit <;> simp

section Consumer

variable {img : Bank} {r : Role} {rest : List Role} {excess : Int} {l : Live}

theorem shedFrom_skips (positive : 0 < excess) (taken : passedOver l r = false)
    (none_ordered : shedLevel img l r excess = none) :
    shedFrom img (r :: rest) excess l = shedFrom img rest excess l := by
  simp only [shedFrom, Int.not_le.2 positive, taken, none_ordered]
  rfl

theorem shedFrom_orders (positive : 0 < excess) (taken : passedOver l r = false) {level : Nat}
    (order : shedLevel img l r excess = some level) :
    shedFrom img (r :: rest) excess l =
      ((shedFrom img rest (excess - shedRelief img l r excess level) (orderShed img r level l)).1, true) := by
  simp only [shedFrom, Int.not_le.2 positive, taken, order]
  rfl

theorem shedLevel_of_stage (stage : 16 ≤ r.val) (excess : Int) :
    shedLevel img l r excess = if (l.budget.consumers.get r).commitment = stageCurrent img then some 0 else none :=
  if_pos (isStage_eq_true stage)

theorem shedRelief_of_stage (stage : 16 ≤ r.val) (excess : Int) (level : Nat) :
    shedRelief img l r excess level = (l.budget.consumers.get r).commitment :=
  if_pos (isStage_eq_true stage)

section Blower

variable (blower : r.val < 16)
include blower

theorem isStage_eq_false : isStage r = false := decide_eq_false (Nat.not_le.2 blower)

theorem shedLevel_of_blower (excess : Int) : shedLevel img l r excess =
    let load := (l.budget.consumers.get r).commitment
    let floorLevel := shedFloor img l (zoneOf r)
    if load ≤ loadOf img r floorLevel then none
    else if excess ≤ (load : Int) - loadOf img r floorLevel then
      some (if blowerRated img (zoneOf r) = 0 then Config.shedLevelUnrated load excess
            else ((load : Int) - excess).toNat * 1000 / blowerRated img (zoneOf r))
    else some floorLevel :=
  if_neg (by simp [isStage_eq_false blower])

theorem shedRelief_of_blower (excess : Int) (level : Nat) : shedRelief img l r excess level =
    let load := (l.budget.consumers.get r).commitment
    if excess ≤ (load : Int) - loadOf img r (shedFloor img l (zoneOf r)) then excess
    else (load : Int) - loadOf img r level :=
  if_neg (by simp [isStage_eq_false blower])

theorem shed_in_part (above : loadOf img r (shedFloor img l (zoneOf r)) < (l.budget.consumers.get r).commitment)
    (part : excess ≤ ((l.budget.consumers.get r).commitment : Int) - loadOf img r (shedFloor img l (zoneOf r)))
    (rated : blowerRated img (zoneOf r) ≠ 0) :
    shedLevel img l r excess = some
      ((((l.budget.consumers.get r).commitment : Int) - excess).toNat * 1000 / blowerRated img (zoneOf r)) ∧
    ∀ level, shedRelief img l r excess level = excess := by
  refine ⟨?_, fun level => (shedRelief_of_blower blower excess level).trans (if_pos part)⟩
  simp only [shedLevel_of_blower blower, if_neg (Nat.not_le.2 above), if_pos part, if_neg rated]

theorem shed_to_floor (above : loadOf img r (shedFloor img l (zoneOf r)) < (l.budget.consumers.get r).commitment)
    (more : ((l.budget.consumers.get r).commitment : Int) - loadOf img r (shedFloor img l (zoneOf r)) < excess) :
    shedLevel img l r excess = some (shedFloor img l (zoneOf r)) ∧
    shedRelief img l r excess (shedFloor img l (zoneOf r)) =
      ((l.budget.consumers.get r).commitment : Int) - loadOf img r (shedFloor img l (zoneOf r)) := by
  refine ⟨?_, (shedRelief_of_blower blower excess _).trans (if_neg (Int.not_le.2 more))⟩
  simp only [shedLevel_of_blower blower, if_neg (Nat.not_le.2 above), if_neg (Int.not_le.2 more)]

end Blower

end Consumer

theorem shedFrom_spent {img : Bank} {excess : Int} (spent : excess ≤ 0) (roles : List Role) (l : Live) :
    shedFrom img roles excess l = (l, false) := by
  cases roles with
  | nil => rfl
  | cons r rest => exact if_pos spent

/-- The actuator's entry in the queue is its own. -/
theorem role_of_queueEntry {l : Live} {r : Role} {e : QueueEntry} (waits : queueEntry l r = some e) : e.role = r := by
  simpa using List.find?_some waits

theorem role_of_itemOf {l : Live} {r : Role} {it : Item} (flies : itemOf l r = some it) : it.role = r := by
  simpa using List.find?_some flies

theorem filter_inFlight_of_itemOf {l : Live} {r : Role} (rests : itemOf l r = none) :
    l.sequencer.inFlight.filter (fun i => i.role != r) = l.sequencer.inFlight := by
  rw [List.filter_eq_self]
  intro i member
  have apart := List.find?_eq_none.1 rests i member
  simpa using apart

/-- An entry joins the tail of its class, and its actuator's work leaves the queue and the suspended place. -/
theorem joinTail_eq {l : Live} {e : QueueEntry} (rests : itemOf l e.role = none) :
    joinTail e l = { l with sequencer := { l.sequencer with
      queue := tailInsert { e with holdOff := joinHold l e.role e.holdOff }
        (l.sequencer.queue.filter fun x => x.role != e.role)
      suspended := l.sequencer.suspended.filter fun m => m.role != e.role } } := by
  rw [joinTail, placeTail_eq]
  simp only [filter_inFlight_of_itemOf rests]

theorem orderShed_eq (img : Bank) {r : Role} (set : 12 ≤ r.val) (level : Nat) (l : Live) :
    orderShed img r level l =
      let listed : Live :=
        { l with budget := { l.budget with shedList := l.budget.shedList ++ [{ role := r, level := level }] } }
      shedOrder img r level (if r.val < 16 then setCapped (zoneOf r) listed else listed) := by
  by_cases blower : r.val < 16
  · simp [orderShed, (isBlower_iff r).2 ⟨set, blower⟩, blower]
  · simp [orderShed, isBlower_eq_false (Nat.le_of_not_lt blower), blower]

/-- Settles O27. -/
theorem batteryVoltsSetsTheBudgetAndLoadIsShed : Obligations.BatteryVoltsSetsTheBudgetAndLoadIsShed := by
  refine ⟨fun img l => ?_, fun img l => rfl, fun img r rest excess l => ?_, fun img r level l => ?_⟩
  · rw [notify_batterySlot, batteryNotice_eq, workOutAvail_eq]
    rfl
  · intro z load rated lowest floorLoad state passed ordered goesOn
    have orders (set : 12 ≤ r.val) (level : Nat) : orderShed img r level l = ordered level := orderShed_eq img set level l
    have take (free : ¬passed) : passedOver l r = false := Bool.not_eq_true _ ▸ mt (passedOver_iff l r).1 free
    refine ⟨rfl, fun spent => shedFrom_spent spent _ l, fun positive pass => ?_, fun positive free stage => ?_,
      fun positive free first last => ?_⟩
    · rw [shedFrom, if_neg (Int.not_le.2 positive), if_pos ((passedOver_iff l r).2 pass)]
    · have level := shedLevel_of_stage (img := img) (l := l) stage excess
      by_cases draws : load = stageCurrent img
      · rw [if_pos draws, shedFrom_orders positive (take free) (level.trans (if_pos draws)), shedRelief_of_stage stage,
          orders (by omega)]
        simp only [goesOn, ← draws, load]
      · rw [if_neg draws, shedFrom_skips positive (take free) (level.trans (if_neg draws))]
    · have blower : isBlower r = true := (isBlower_iff r).2 ⟨first, last⟩
      have floor : loadOf img r (shedFloor img l (zoneOf r)) = floorLoad := loadOf_of_blower blower img _
      refine ⟨fun low => ?_, fun above part rates => ?_, fun above more => ?_⟩
      · exact shedFrom_skips positive (take free) ((shedLevel_of_blower last excess).trans (if_pos (floor ▸ low)))
      · obtain ⟨level, relief⟩ := shed_in_part last (floor ▸ above) (floor ▸ part) rates
        rw [shedFrom_orders positive (take free) level, relief, Int.sub_self, shedFrom_spent (Int.le_refl 0), orders first]
      · obtain ⟨level, relief⟩ := shed_to_floor last (floor ▸ above) (floor ▸ more)
        rw [shedFrom_orders positive (take free) level, relief, orders first, floor]
        rfl
  · intro u a hold others placed
    refine ⟨fun it flies => ?_, fun rests => ⟨fun e waits => ?_, fun empty idle => ?_⟩⟩
    · simp only [shedOrder, flies]
      rfl
    · obtain rfl := role_of_queueEntry waits
      simp only [shedOrder, rests, waits]
      rw [joinTail_eq (by exact rests)]
      simp only [placed, a, set_get_same]
      rfl
    · simp only [shedOrder, rests, empty]
      rw [actuator, if_pos idle, joinTail_eq (by exact rests)]
      rfl

end Sys2Proof.Machine


/-! Target arrivals (R118, R119). -/

namespace Sys2Proof.Machine

theorem within_iff (d p w : Nat) : within d p w = true ↔ max p w - min p w ≤ d := by
  simp [within]

theorem placeTail_rests {l : Live} {e : QueueEntry} (rests : itemOf l e.role = none) :
    placeTail e l = { l with sequencer := { l.sequencer with
      queue := tailInsert e (l.sequencer.queue.filter fun x => x.role != e.role)
      suspended := l.sequencer.suspended.filter fun m => m.role != e.role } } := by
  rw [placeTail_eq]
  simp only [filter_inFlight_of_itemOf rests]

section Rests

variable {img : Bank} {r : Role} {t : Target} {l : Live} (rests : itemOf l r = none)
include rests

theorem arrivalBody_idle (state : (l.sequencer.actuators.get r).state = .idle) :
    arrivalBody img r t l = arrivalIdle img r t l := by
  simp only [arrivalBody, rests, actuator, state]

theorem arrivalBody_uncertain (state : (l.sequencer.actuators.get r).state = .uncertain) :
    arrivalBody img r t l = arrivalUncertain r t l := by
  simp only [arrivalBody, rests, actuator, state]

theorem arrivalBody_queued (state : (l.sequencer.actuators.get r).state = .queued) {e : QueueEntry}
    (waits : queueEntry l r = some e) : arrivalBody img r t l = arrivalQueued img r t e l := by
  simp only [arrivalBody, rests, actuator, state, waits]

theorem arrivalBody_suspended (state : (l.sequencer.actuators.get r).state = .suspended) :
    arrivalBody img r t l = arrivalSuspended img r t l := by
  simp only [arrivalBody, rests, actuator, state]

theorem arrivalBody_unserved (state : (l.sequencer.actuators.get r).state = .offline ∨
    (l.sequencer.actuators.get r).state = .faulted ∨ (l.sequencer.actuators.get r).state = .absent) :
    arrivalBody img r t l = l := by
  rcases state with state | state | state <;> simp only [arrivalBody, rests, actuator, state]

end Rests

theorem arrivalBody_inFlight {img : Bank} {r : Role} {t : Target} {l : Live} {it : Item} (flies : itemOf l r = some it) :
    arrivalBody img r t l = arrivalInFlight img r t it l := by
  simp only [arrivalBody, flies]

theorem workKind_eq (r : Role) : workKind r = if r.val < 12 then .move else .set := by
  simp [workKind, positioned]

theorem arrivalIdle_eq {img : Bank} {r : Role} {t : Target} {l : Live} (rests : itemOf l r = none) :
    arrivalIdle img r t l =
      let a := l.sequencer.actuators.get r
      if within (binding img r).deadband a.position t.level = true ∨ l.part.state = .settling then l
      else { l with sequencer := { l.sequencer with
        actuators := l.sequencer.actuators.set r { a with state := .queued }
        queue := tailInsert { newEntry r (workKind r) t false with holdOff := joinHold l r none }
          (l.sequencer.queue.filter fun x => x.role != r)
        suspended := l.sequencer.suspended.filter fun m => m.role != r } } := by
  rw [arrivalIdle, joinTail_eq (e := newEntry r (workKind r) t false) rests]
  rfl

theorem releaseMotion_eq (img : Bank) (r : Role) (l : Live) :
    releaseMotion img r l =
      let c := l.budget.consumers.get r
      let freed : Live :=
        { l with budget := { l.budget with consumers := l.budget.consumers.set r { c with commitment := 0 } } }
      if 0 < c.commitment then roomNotice img freed else freed :=
  ite_of_iff decide_eq_true_iff rfl rfl

/-- Settles O30. -/
theorem targetArrivalsFollowTheirTables : Obligations.TargetArrivalsFollowTheirTables := by
  intro img r t l q a near kind hold entry others join becomes placed waits replaced
  have close (p w : Nat) : near p w ↔ within (binding img r).deadband p w = true := (within_iff _ p w).symm
  have replaces (rests : itemOf l r = none) {e : QueueEntry} (queued : queueEntry l r = some e) :
      replaceLevel e t l = replaced e := by
    obtain rfl := role_of_queueEntry queued
    rw [replaceLevel, placeTail_rests (e := { e with level := t.level, urgent := true }) rests]
    simp only [replaced, placed, a, becomes, q, set_get_same]
    rfl
  refine ⟨rfl, fun rests => ⟨fun state => ?idle, fun state => ⟨fun empty => ?fresh, fun e queued => ?again⟩,
    fun state e queued => ⟨fun shed => ?shed, fun plain reached => ?reached, fun plain far => ?far⟩,
    fun state m kept => ?suspended, arrivalBody_unserved rests⟩, fun it flies => ?flies⟩
  case idle =>
    rw [arrivalBody_idle rests state, arrivalIdle_eq rests, workKind_eq]
    exact ite_of_iff (or_congr (close a.position t.level).symm Iff.rfl) rfl rfl
  case fresh =>
    rw [arrivalBody_uncertain rests state]
    simp only [arrivalUncertain, empty]
    rw [joinTail_eq (e := newEntry r .home t false) rests, joinTail_eq (e := newEntry r .set t false) rests]
    by_cases motor : r.val < 12
    · rw [if_pos motor, positioned, if_pos (decide_eq_true motor)]
      rfl
    · rw [if_neg motor, positioned, if_neg (by simp [motor])]
      simp only [placed, a, q, set_get_same]
      rfl
  case again =>
    rw [arrivalBody_uncertain rests state]
    simp only [arrivalUncertain, queued]
    obtain rfl := role_of_queueEntry queued
    by_cases motor : e.role.val < 12
    · rw [if_pos motor, positioned, if_pos (decide_eq_true motor),
        placeTail_rests (l := setPending e.role (some t) l) (e := { e with urgent := true }) rests]
      rfl
    · rw [if_neg motor, positioned, if_neg (by simp [motor])]
      exact replaces rests queued
  case shed =>
    rw [arrivalBody_queued rests state queued, arrivalQueued, if_pos shed]
    rfl
  case reached =>
    rw [arrivalBody_queued rests state queued, arrivalQueued, if_neg (by simp [plain])]
    refine (if_pos ((close _ _).1 reached)).trans ?_
    exact ite_of_iff Iff.rfl rfl (releaseMotion_eq img r _)
  case far =>
    rw [arrivalBody_queued rests state queued, arrivalQueued, if_neg (by simp [plain])]
    exact (if_neg (mt (close _ _).2 far)).trans (replaces rests queued)
  case suspended =>
    rw [arrivalBody_suspended rests state]
    intro left
    simp only [arrivalSuspended, show l.sequencer.suspended = some m from kept]
    rw [arrivalIdle_eq (l := setSuspended none (setActuatorState r .idle l)) rests]
    refine ite_of_iff (close m.level t.level).symm rfl (ite_of_iff (or_congr ?_ Iff.rfl) rfl ?_)
    · rw [close]
      simp [setSuspended, setActuatorState, onActuator, updateAt, a, q]
    · simp [setSuspended, setActuatorState, onActuator, updateAt, tailInsert, newEntry, workKind_eq, joinHold, actuator,
        left, join, entry, kind, hold, a, q, others]
      rfl
  case flies =>
    rw [arrivalBody_inFlight flies]
    obtain rfl := role_of_itemOf flies
    intro merged items moved
    refine ⟨fun still => ?_, fun move => ⟨fun phase => ?_, fun phase => ⟨fun reached => ?_, fun far plain => ?_,
      fun far urgent => ?_⟩, fun phase => ?_, fun phase => ?_⟩⟩
    · rcases still with kind | kind <;> simp only [arrivalInFlight, kind] <;> rfl
    · simp only [arrivalInFlight, move, phase]
      rfl
    · simp only [arrivalInFlight, move, phase]
      exact if_pos ((close _ _).1 reached)
    · simp only [arrivalInFlight, move, phase, plain]
      exact if_neg (mt (close _ _).2 far)
    · simp only [arrivalInFlight, move, phase, urgent]
      exact if_neg (mt (close _ _).2 far)
    · simp only [arrivalInFlight, move, phase]
      rfl
    · rcases phase with phase | phase <;> simp only [arrivalInFlight, move, phase] <;> rfl

end Sys2Proof.Machine


/-! The offer of the Move Queue, its issues, suspension and resume, and the sequencer's timers (R120, R121, R123, R125). -/

namespace Sys2Proof.Machine

/-! ### Issue (R121) -/

/-- Issued work leaves its collection, joins the In-Flight set and makes its request. -/
theorem startItem_eq (img : Bank) (r : Role) (kind : WorkKind) (level asked : Nat) (urgent shed : Bool) (address : Nat)
    (l : Live) : startItem img r kind level asked urgent shed address l =
      let u := l.sequencer
      let a := u.actuators.get r
      let item : Item :=
        { role := r, id := u.nextId, kind := kind, level := level, asked := asked, urgent := urgent, phase := .issuing,
          shed := shed, shedOrder := none, issued := l.now, deadline := none, poll := none }
      placeRequest (.item r u.nextId) address (commandFor img r kind level) (issueClass kind urgent)
        { l with sequencer := { u with
            actuators := u.actuators.set r { a with state := issuedState kind a.state }
            queue := u.queue.filter fun e => e.role != r
            inFlight := (u.inFlight.filter fun i => i.role != r) ++ [item]
            suspended := u.suspended.filter fun m => m.role != r
            nextId := u.nextId + 1 } } := by
  rw [startItem, leaveWork_eq]
  rfl

theorem nodeSense_eq (img : Bank) (r : Role) (p : Nat) :
    nodeSense img r p = if r.val < 12 ∧ (binding img r).reverse = true then 1000 - p else p := by
  simp only [nodeSense, positioned, decide_eq_true_eq]

theorem issuedState_eq (kind : WorkKind) (st : ActuatorState) : issuedState kind st = match kind with
    | .move => .moving
    | .home => .homing
    | .set => if st = .idle ∨ st = .queued then .moving else st := by
  cases kind <;> cases st <;> rfl

theorem issueClass_eq (kind : WorkKind) (urgent : Bool) :
    issueClass kind urgent = if kind ≠ .set ∧ urgent = true then .urgent else .normal := by
  cases kind <;> cases urgent <;> rfl

theorem askMotion_answers (img : Bank) (r : Role) (b : Budget) :
    (askMotion img r b).1 = .admitted ∨ (askMotion img r b).1 = .wait := by
  unfold askMotion
  dsimp only
  split
  · exact .inl rfl
  · split
    · exact .inl rfl
    · exact .inr rfl

theorem putEntry_excluded {img : Bank} {e : QueueEntry} {l : Live} {address : Nat}
    (found : nodeAddress img l e.role = some address) (excluded : nodeStateOf img l e.role = some .excluded) :
    putEntry img e l = (returnUnsent img e l, false) := by
  simp only [putEntry, found, excluded]
  rfl

section PutEntry

variable {img : Bank} {e : QueueEntry} {l : Live} {address : Nat} (found : nodeAddress img l e.role = some address)
  (sent : nodeStateOf img l e.role ≠ some .excluded)
include found sent

theorem putEntry_set (set : e.kind = .set) :
    let told : Live := { l with budget := (askSet img e.role e.level l.budget).2 }
    let freed := if isBlower e.role ∧ e.shed = false then clearCapped (zoneOf e.role) told else told
    ((askSet img e.role e.level l.budget).1 = .admitted →
      putEntry img e l = (issue img e e.level address freed, false)) ∧
    (∀ w, (askSet img e.role e.level l.budget).1 = .capped w →
      putEntry img e l = (issue img e w address (setCapped (zoneOf e.role) told), false)) ∧
    ((askSet img e.role e.level l.budget).1 = .held → putEntry img e l = (setCapped (zoneOf e.role) told, true)) ∧
    ((askSet img e.role e.level l.budget).1 = .wait → putEntry img e l = (told, true)) := by
  refine ⟨fun answer => ?_, fun w answer => ?_, fun answer => ?_, fun answer => ?_⟩ <;>
    simp only [putEntry, found, set, answer] <;>
    exact if_neg sent

theorem putEntry_motion (motion : e.kind ≠ .set) :
    let told : Live := { l with budget := (askMotion img e.role l.budget).2 }
    ((askMotion img e.role l.budget).1 = .admitted → putEntry img e l = (issue img e e.level address told, false)) ∧
    ((askMotion img e.role l.budget).1 = .wait → putEntry img e l = (told, true)) := by
  cases kind : e.kind
  case set => exact absurd kind motion
  all_goals
    refine ⟨fun answer => ?_, fun answer => ?_⟩ <;>
      simp only [putEntry, found, kind, answer] <;>
      exact if_neg sent

end PutEntry

/-! ### Suspension (R123) -/

theorem mem_of_latestIssued {i : Item} : ∀ items : List Item, latestIssued items = some i → i ∈ items
  | [], latest => by simp [latestIssued] at latest
  | j :: rest, latest => by
    rw [latestIssued] at latest
    match found : latestIssued rest with
    | none => simp_all
    | some k =>
      have member := mem_of_latestIssued rest found
      rw [found] at latest
      dsimp only at latest
      split at latest <;> obtain rfl := Option.some.inj latest
      · exact List.mem_cons_of_mem _ member
      · exact List.mem_cons_self

/-- The latest issue time wins, and of two issued together the first. -/
theorem latestIssued_append {i : Item} {later : List Item} (back : ∀ j ∈ later, j.issued ≤ i.issued) :
    ∀ earlier : List Item, (∀ j ∈ earlier, j.issued < i.issued) → latestIssued (earlier ++ i :: later) = some i
  | [], _ => by
    rw [List.nil_append, latestIssued]
    match found : latestIssued later with
    | none => rfl
    | some j => exact if_neg (Nat.not_lt.2 (back j (mem_of_latestIssued later found)))
  | j :: earlier, front => by
    rw [List.cons_append, latestIssued,
      latestIssued_append back earlier fun k member => front k (List.mem_cons_of_mem j member)]
    exact if_pos (front j List.mem_cons_self)

theorem placeTaken_iff (l : Live) : placeTaken l = true ↔
    l.sequencer.suspended ≠ none ∨ ∃ i ∈ l.sequencer.inFlight, i.phase = .halting .suspend := by
  simp [placeTaken, Option.isSome_iff_ne_none]

theorem trySuspend_armed {img : Bank} {l : Live} (armed : l.sequencer.armed = true) :
    trySuspend img l = if placeTaken l then setArmed false l else
      match latestIssued (l.sequencer.inFlight.filter (suspendable l)) with
      | none => setArmed false l
      | some i => haltItem img .suspend i (setArmed false l) := by
  rw [trySuspend, if_pos armed]
  rfl

theorem haltItem_eq (img : Bank) (why : HaltReason) (it : Item) (l : Live) :
    haltItem img why it l =
      let items := l.sequencer.inFlight.map fun i =>
        if i.role = it.role then { i with phase := .halting why, poll := none, deadline := none } else i
      let link : Link := { l.link with requests := l.link.requests.filter fun q => !q.owner.isItemOf it.role }
      placeRequest (.item it.role it.id) ((nodeAddress img l it.role).getD 0) (.halt (binding img it.role).channel)
        (haltClass why) { l with sequencer := { l.sequencer with inFlight := items }, link := link } := rfl

/-! ### The resume (R125) -/

theorem offerResume_found {img : Bank} {l : Live} {m : Suspended} (kept : l.sequencer.suspended = some m) {address : Nat}
    (found : nodeAddress img l m.role = some address) :
    offerResume img l =
      let asked := askMotion img m.role l.budget
      let told : Live := { l with budget := asked.2 }
      if asked.1 = .admitted then
        (startItem img m.role .move m.level m.level false false address
          (onActuator m.role (fun a => { a with guardTime := some (l.now + resumeGuard) }) (setSuspended none told)), false)
      else (told, true) := by
  simp only [offerResume, kept, found]

theorem setCapped_now (z : Fin 4) (l : Live) : (setCapped z l).now = l.now := by
  unfold setCapped
  split
  · rfl
  · exact outer_now (outer_latch ..)

/-- Settles O31. -/
theorem queueIsOfferedAndTimersAct : Obligations.QueueIsOfferedAndTimersAct := by
  refine ⟨fun s r e free => ?timers, fun img e l => ?put, fun z l => rfl, fun img skip e rest l => ⟨rfl, ?entries⟩,
    fun img l => ⟨fun run settling => ?still, fun serves => ?offers, rfl⟩,
    fun img l => ?suspend, fun img l => ⟨fun empty => ?empty, fun m kept => ?resume⟩⟩
  case timers =>
    intro img l q address channel
    refine ⟨fun due => ?_, fun due => ?_, fun it flies => ⟨fun due => ?_, fun due => ?_⟩⟩
    · exact running_onExpiry free (timer := fun l => (queueEntry l r).bind (·.holdOff)) due rfl
    · exact running_onExpiry free (timer := fun l => (actuator l r).guardTime) due rfl
    · refine running_onExpiry free (timer := fun l => (itemOf l r).bind (·.poll)) (by rw [flies]; exact due) ?_
      have flies : itemOf { s.live with now := max s.live.now e } r = some it := flies
      simp only [pollExpires, flies]
      rfl
    · refine running_onExpiry free (timer := fun l => (itemOf l r).bind (·.deadline)) (by rw [flies]; exact due) ?_
      obtain rfl := role_of_itemOf flies
      have flies : itemOf { s.live with now := max s.live.now e } it.role = some it := flies
      simp only [deadlineExpires, flies]
      rfl
  case put =>
    intro u r a others items apart soon channel issued asked told free kept queue
    refine ⟨fun lost => ?_, fun address found => ⟨fun excluded => ?_, fun sent => ?_⟩⟩
    · simp only [putEntry, show nodeAddress img l e.role = none from lost]
    · rw [putEntry_excluded found excluded, returnUnsent, placeHead_eq]
      rfl
    have issues : ∀ (level : Nat) (m : Live), m.sequencer = u → m.now = l.now →
        issue img e level address m = issued level address m := by
      intro level m sequencer now
      simp only [issue, startItem_eq, issuedState_eq, issueClass_eq, commandFor, nodeSense_eq, sequencer, now, issued, a, r, channel]
      congr 1
    by_cases set : e.kind = .set
    · have askedSet : asked = askSet img r e.level l.budget := if_pos set
      have freed : free = if isBlower r ∧ e.shed = false then clearCapped (zoneOf r) told else told := by
        simp only [free, set, true_and, isBlower_iff, and_assoc]
        rfl
      clear_value asked free
      subst askedSet freed
      obtain ⟨admitted, capped, held, waits⟩ := putEntry_set found sent set
      refine ⟨fun answer => ?_, fun w answer => ?_, held, waits⟩
      · exact (admitted answer).trans (congrArg (·, false) (issues _ _ (by split <;> rfl) (by split <;> rfl)))
      · exact (capped w answer).trans (congrArg (·, false) (issues _ _ (setCapped_sequencer ..) (setCapped_now ..)))
    · have askedMotion : asked = askMotion img r l.budget := if_neg set
      have freed : free = told := if_neg fun both => set both.1
      clear_value asked free
      subst askedMotion freed
      obtain ⟨admitted, waits⟩ := putEntry_motion found sent set
      have answers := askMotion_answers img r l.budget
      refine ⟨fun answer => ?_, fun w answer => ?_, fun answer => ?_, waits⟩
      · exact (admitted answer).trans (congrArg (·, false) (issues _ _ rfl rfl))
      · simp [answer] at answers
      · simp [answer] at answers
  case entries => exact ite_of_iff (or_congr Option.isSome_iff_ne_none Iff.rfl) rfl rfl
  case still => exact if_neg (not_or.2 ⟨run, settling⟩)
  case offers => exact if_pos serves
  case suspend =>
    intro u tried taken free candidates
    refine ⟨fun unarmed => ?_, fun armed none => ?_, fun earlier i later armed place split front back => ?_⟩
    · exact if_neg (by simp [show l.sequencer.armed = false from unarmed])
    · rw [trySuspend_armed armed]
      rcases none with place | none
      · exact if_pos ((placeTaken_iff l).2 place)
      · have none : l.sequencer.inFlight.filter (suspendable l) = [] := none
        rw [none, latestIssued]
        exact ite_self _
    · rw [trySuspend_armed armed, if_neg (mt (placeTaken_iff l).1 place)]
      have candidates : l.sequencer.inFlight.filter (suspendable l) = earlier ++ i :: later := split
      rw [candidates, latestIssued_append back earlier front]
      exact haltItem_eq ..
  case empty => simp only [offerResume, empty]
  case resume =>
    intro r a asked item sense told items goes
    refine ⟨fun lost => ?_, fun address found => ?_⟩
    · simp only [offerResume, kept, show nodeAddress img l m.role = none from lost]
    · rw [offerResume_found kept found]
      refine ite_of_iff Iff.rfl (congrArg (·, false) ?_) rfl
      simp [startItem_eq, commandFor, nodeSense_eq, onActuator, updateAt, setSuspended, issuedState, issueClass,
        resumeGuard, goes, told, asked, items, item, sense, a, r]

end Sys2Proof.Machine


/-! How a transaction of the cab link ends (R140, R147, R150, R155). -/

namespace Sys2Proof.Machine

/-! ### Replies and the reply window (R140) -/

/-- What the end of a transaction makes of the live part, up to the look whether SETTLING has ended. -/
def transactionEnd (img : Bank) (q : LinkRequest) (e : Ending) (l : Live) : Live :=
  settleCheck (freeLink (deliverOutcome img q e (countTransaction img q e l)))

theorem takeReply_of_test {img : Bank} {test : LinkRequest → Bool} {q : LinkRequest} {l : Live} (reply : LinkReply)
    (busy : l.link.onLink = some q) (sent : l.link.sent = true) (mine : test q = true) :
    settleCheck (takeReply img test reply l) = transactionEnd img q (replyEnding q.command reply) l := by
  simp only [takeReply, busy, sent, mine]
  rfl

section Reply

variable {s : State} {q : LinkRequest} (free : s.held = false) (busy : s.live.link.onLink = some q)
  (sent : s.live.link.sent = true)
include free busy sent

theorem running_takeReply {test : LinkRequest → Bool} (reply : LinkReply) (mine : test q = true) :
    (.next (s.running fun l => settleCheck (takeReply s.active test reply l)) : Result) =
      .next { s with live := transactionEnd s.active q (replyEnding q.command reply) s.live } :=
  congrArg Host.Outcome.next ((s.running_free _ free).trans (by rw [takeReply_of_test reply busy sent mine]))

/-- A reply command that fits the request on the link ends its transaction. -/
theorem exec_reply {c : Instr} {reply : LinkReply}
    (fits : (c = .moveReply reply ∧ isMove q = true) ∨ (c = .homeReply reply ∧ isHome q = true) ∨
      (c = .setReply reply ∧ isSet q = true) ∨ (c = .haltReply reply ∧ isHalt q = true) ∨
      (c = .queryReply reply ∧ isPoll q = true) ∨ (c = .probeReply reply ∧ isProbe q = true) ∨
      (c = .bindReply reply ∧ isBind q = true) ∨ (c = .readReply reply ∧ isRead q = true) ∨
      (c = .writeReply reply ∧ isWrite q = true)) :
    exec c s = .next { s with live := transactionEnd s.active q (replyEnding q.command reply) s.live } := by
  rcases fits with ⟨rfl, mine⟩ | ⟨rfl, mine⟩ | ⟨rfl, mine⟩ | ⟨rfl, mine⟩ | ⟨rfl, mine⟩ | ⟨rfl, mine⟩ | ⟨rfl, mine⟩ |
      ⟨rfl, mine⟩ | ⟨rfl, mine⟩ <;>
    exact running_takeReply free busy sent reply mine

end Reply

theorem requestSent_unsent {l : Live} {q : LinkRequest} (busy : l.link.onLink = some q) (unsent : l.link.sent = false) :
    requestSent l = l.onLinkBlock fun k =>
      { k with sent := true, replyWindow := if isRound q then none else some (l.now + replyWindowTime) } := by
  simp only [requestSent, busy, unsent]
  rfl

theorem windowPasses_busy {l : Live} {q : LinkRequest} (busy : l.link.onLink = some q) (img : Bank) :
    windowPasses img l = endTransaction img q .failure l := by
  simp only [windowPasses, busy]

/-! ### The directory's entries -/

theorem address_of_nodeAt {k : Link} {address : Nat} {n : Node} (found : k.nodeAt address = some n) :
    n.address = address := by
  simpa using List.find?_some found

/-- Two changes of one entry are one change. -/
theorem onNode_onNode {f : Node → Node} (keeps : ∀ n, (f n).address = n.address) (address : Nat) (g : Node → Node)
    (k : Link) : (k.onNode address f).onNode address g = k.onNode address fun n => g (f n) := by
  simp only [Link.onNode, List.map_map]
  congr 1
  refine List.map_congr_left fun n _ => ?_
  by_cases here : n.address = address <;> simp [here, keeps]

section OnNode

variable {f : Node → Node} (keeps : ∀ n, (f n).address = n.address)
include keeps

theorem nodeAt_onNode (address other : Nat) (k : Link) :
    (k.onNode address f).nodeAt other = (k.nodeAt other).map fun n => if n.address = address then f n else n := by
  have same : ((fun n : Node => n.address == other) ∘ fun n : Node => if n.address = address then f n else n) =
      fun n => n.address == other := by
    funext n
    by_cases here : n.address = address <;> simp [here, keeps]
  rw [Link.nodeAt, Link.onNode, List.find?_map, same]
  rfl

theorem nodeAt_onNode_self {address : Nat} {k : Link} {n : Node} (found : k.nodeAt address = some n) :
    (k.onNode address f).nodeAt address = some (f n) := by
  rw [nodeAt_onNode keeps, found, Option.map_some, if_pos (address_of_nodeAt found)]

theorem nodeAt_onNode_other {address other : Nat} (apart : other ≠ address) (k : Link) :
    (k.onNode address f).nodeAt other = k.nodeAt other := by
  rw [nodeAt_onNode keeps]
  match found : k.nodeAt other with
  | none => rfl
  | some n => rw [Option.map_some, if_neg (address_of_nodeAt found ▸ apart)]

end OnNode

/-! ### The count against a node (R147) -/

theorem nodeAt_of_directory {k m : Link} (same : k.directory = m.directory) (address : Nat) :
    k.nodeAt address = m.nodeAt address := by
  rw [Link.nodeAt, same, Link.nodeAt]

@[simp] theorem finishAccess_directory (result : Nat) (l : Live) :
    (finishAccess result l).link.directory = l.link.directory := by
  unfold finishAccess
  split <;> rfl

@[simp] theorem cancelAccess_directory (result : Nat) (l : Live) :
    (cancelAccess result l).link.directory = l.link.directory := by
  unfold cancelAccess
  split
  · exact finishAccess_directory ..
  · rfl

@[simp] theorem latch_directory (k : Kind) (parameter : Nat) (l : Live) :
    (latch k parameter l).link.directory = l.link.directory := outer_directory (outer_latch ..)

@[simp] theorem nodeGone_directory (img : Bank) (serial : Nat) (l : Live) :
    (nodeGone img serial l).link.directory = l.link.directory := outer_directory (outer_nodeGone ..)

/-- The loss of an entry changes its state in the directory, and nothing else there. -/
theorem loseNode_directory (img : Bank) (n : Node) (l : Live) :
    (loseNode img n l).link.directory = (l.link.onNode n.address fun m => { m with state := .lost }).directory := by
  simp only [loseNode]
  split <;> split <;> simp [Live.onLinkBlock]

/-- A kind is latched whether it asks for a STATUS_E or not. -/
theorem latch_latched (k : Kind) (n : Nat) (l : Live) :
    (latch k n l).events.latched = l.events.latched.set k (some n) := by
  unfold latch askStatusE placeStatusE placeFrame
  dsimp only
  repeat' split
  all_goals rfl

theorem latched_latch (k : Kind) (parameter : Nat) (l : Live) :
    (latch k parameter l).events.latched.get k = some parameter := by
  rw [latch_latched]
  exact get_set_self ..

section Count

variable {img : Bank} {l : Live} {n : Node} {address : Nat} (found : l.link.nodeAt address = some n)
include found

theorem countOutcome_uncounted (state : n.state = .lost ∨ n.state = .excluded) (success : Bool) :
    countOutcome img address success l = l := by
  simp only [countOutcome, found]
  exact if_neg (by rcases state with state | state <;> simp [state])

variable (counts : n.state = .bound ∨ n.state = .spare)
include counts

theorem countOutcome_success : countOutcome img address true l =
    { l with link := l.link.onNode address fun m => { m with consecutive := 0 } } := by
  simp only [countOutcome, found]
  exact if_pos counts

theorem countOutcome_failure : countOutcome img address false l =
    if n.failed.consecutive = lossCount then loseNode img n { l with link := l.link.onNode address Node.failed }
    else { l with link := l.link.onNode address Node.failed } := by
  simp only [countOutcome, found]
  exact if_pos counts

end Count

theorem countOutcome_nodeAt_other {img : Bank} {l : Live} {address other : Nat} (apart : other ≠ address)
    (success : Bool) : (countOutcome img address success l).link.nodeAt other = l.link.nodeAt other := by
  match found : l.link.nodeAt address with
  | none => simp only [countOutcome, found]
  | some n =>
    by_cases counts : n.state = .bound ∨ n.state = .spare
    · cases success
      · rw [countOutcome_failure found counts]
        split
        · rw [nodeAt_of_directory (loseNode_directory ..), address_of_nodeAt found,
            nodeAt_onNode_other (f := fun m => { m with state := .lost }) (fun _ => rfl) apart,
            nodeAt_onNode_other (f := Node.failed) (fun _ => rfl) apart]
        · exact nodeAt_onNode_other (f := Node.failed) (fun _ => rfl) apart _
      · rw [countOutcome_success found counts]
        exact nodeAt_onNode_other (f := fun m => { m with consecutive := 0 }) (fun _ => rfl) apart _
    · simp only [countOutcome, found, if_neg counts]

theorem failed_third_iff {n : Node} (most : n.consecutive ≤ 3) : n.failed.consecutive = lossCount ↔ 2 ≤ n.consecutive := by
  have step : n.failed.consecutive = if n.consecutive < 3 then n.consecutive + 1 else n.consecutive := rfl
  rw [step, lossCount]
  split <;> omega

/-- The third failure in a row loses the node: NODE_LOST, the report of a BOUND one, and the end of a waiting window
access of the node (R147). -/
theorem countOutcome_third {img : Bank} {l : Live} {n : Node} (found : l.link.nodeAt n.address = some n)
    (counts : n.state = .bound ∨ n.state = .spare) (third : n.failed.consecutive = lossCount) :
    countOutcome img n.address false l =
      let lost : Live := latch kNodeLost n.address
        { l with link := l.link.onNode n.address fun m => { m.failed with state := .lost } }
      let told := if n.state = .bound then nodeGone img n.serial lost else lost
      if told.link.requests.any (fun q => q.owner == .window && q.address == n.address) then cancelAccess rNoReply told
      else told := by
  rw [countOutcome_failure found counts, if_pos third, loseNode]
  simp only [Live.onLinkBlock, onNode_onNode (f := Node.failed) (fun _ => rfl)]

/-! ### The owners of a transaction (R121, R145, R155) -/

theorem countTransaction_rollcall {q : LinkRequest} (owner : q.owner = .rollcall) (img : Bank) (e : Ending) (l : Live) :
    countTransaction img q e l = l :=
  if_pos (by simp [isRollcall, owner])

theorem countTransaction_node {q : LinkRequest} (owner : q.owner ≠ .rollcall) (img : Bank) (e : Ending) (l : Live) :
    countTransaction img q e l = countOutcome img q.address (decide (e ≠ .failure)) l := by
  have failed : (e != .failure) = decide (e ≠ .failure) := by cases e <;> simp
  rw [countTransaction, if_neg (by simp [isRollcall, owner]), failed]

section Delivery

variable {img : Bank} {q : LinkRequest} (e : Ending) (l : Live)

theorem deliverOutcome_item {role : Role} {id : Nat} (owner : q.owner = .item role id) :
    deliverOutcome img q e l = deliverToItem img role id q.command e l := by
  simp only [deliverOutcome, owner]

theorem deliverOutcome_window (owner : q.owner = .window) : deliverOutcome img q e l = windowEnds e l := by
  simp only [deliverOutcome, owner]

theorem deliverOutcome_probe (owner : q.owner = .probe) :
    deliverOutcome img q e l = probeEnds img q.address (e != .failure) l := by
  simp only [deliverOutcome, owner]

theorem deliverOutcome_bind (owner : q.owner = .rollcall) {serial address : Nat} (bind : q.command = .bind serial address) :
    deliverOutcome img q e l = bindEnds img serial address (decide (e = .accept)) l := by
  simp only [deliverOutcome, owner, bind]
  rfl

theorem deliverOutcome_round (owner : q.owner = .rollcall) {reset : Bool} (round : q.command = .rollcall reset) :
    deliverOutcome img q e l = l := by
  simp only [deliverOutcome, owner, round]

end Delivery

theorem deliverToItem_of_itemOf {l : Live} {role : Role} {it : Item} (flies : itemOf l role = some it) (img : Bank)
    (id : Nat) (c : LinkCommand) (e : Ending) :
    deliverToItem img role id c e l = if it.id = id then itemOutcome img it c e l else l := by
  simp only [deliverToItem, flies]

theorem deliverToItem_gone {l : Live} {role : Role} {id : Nat} (gone : ∀ it, itemOf l role = some it → it.id ≠ id)
    (img : Bank) (c : LinkCommand) (e : Ending) : deliverToItem img role id c e l = l := by
  match flies : itemOf l role with
  | none => simp only [deliverToItem, flies]
  | some it => rw [deliverToItem_of_itemOf flies, if_neg (gone it flies)]

/-- A LOST node that answers its probe is found (R145). -/
theorem probeEnds_found {img : Bank} {address : Nat} {l : Live} {n : Node} (found : l.link.nodeAt address = some n)
    (lost : n.state = .lost) : probeEnds img address true l = findNode img n l := by
  simp only [probeEnds, found, lost]
  rfl

theorem probeEnds_unmoved {img : Bank} {address : Nat} {l : Live} {success : Bool}
    (unfound : success = false ∨ ∀ n, l.link.nodeAt address = some n → n.state ≠ .lost) :
    probeEnds img address success l = l := by
  match found : l.link.nodeAt address with
  | none => simp only [probeEnds, found]
  | some n =>
    simp only [probeEnds, found]
    refine if_neg fun both => ?_
    rcases unfound with failed | apart
    · exact Bool.false_ne_true (failed.symm.trans both.1)
    · exact apart n found both.2

theorem finishAccess_eq (result : Nat) (l : Live) :
    (l.management.inProgress = some .nodeRead → finishAccess result l =
      reply 0x38 result [] { l with management := { l.management with inProgress := none } }) ∧
    (l.management.inProgress = some .nodeWrite → finishAccess result l =
      reply 0x39 result [] { l with management := { l.management with inProgress := none } }) := by
  constructor <;> intro access <;> simp only [finishAccess, access]

/-- Settles O38. -/
theorem failuresAreCountedAndTheThirdLosesTheNode : Obligations.FailuresAreCountedAndTheThirdLosesTheNode := by
  refine ⟨fun s q free busy => ⟨fun unsent => ?sent, fun e due => ?window⟩, fun img l n found => ?counted,
    fun s q reply c free busy sent fits => exec_reply free busy sent fits, fun img q e s => ?ended⟩
  case sent =>
    exact congrArg Host.Outcome.next ((s.running_free _ free).trans (by rw [requestSent_unsent busy unsent]; rfl))
  case window =>
    refine running_onExpiry free (timer := fun l => l.link.replyWindow) due ?_
    exact congrArg settleCheck (windowPasses_busy (l := { s.live with now := max s.live.now e }) busy s.active)
  case counted =>
    intro up counted
    refine ⟨fun counts => ⟨?_, fun few => ?_, fun many most => ?_⟩, fun success address apart =>
      countOutcome_nodeAt_other apart success, fun state success => countOutcome_uncounted found state success⟩
    · rw [countOutcome_success found counts]
      exact nodeAt_onNode_self (f := fun m => { m with consecutive := 0 }) (fun _ => rfl) found
    · have short : ¬n.failed.consecutive = lossCount := mt (failed_third_iff (by omega)).1 (by omega)
      rw [countOutcome_failure found counts, if_neg short]
      exact ⟨nodeAt_onNode_self (f := Node.failed) (fun _ => rfl) found, rfl⟩
    · have third : n.failed.consecutive = lossCount := (failed_third_iff most).2 many
      intro lost told
      refine ⟨countOutcome_third found counts third, ?_, latched_latch ..⟩
      rw [countOutcome_failure found counts, if_pos third, nodeAt_of_directory (loseNode_directory ..)]
      exact nodeAt_onNode_self (f := fun m => { m with state := .lost }) (fun _ => rfl)
        (nodeAt_onNode_self (f := Node.failed) (fun _ => rfl) found)
  case ended =>
    intro l k told access code filled
    refine ⟨fun owner => countTransaction_rollcall owner img e l, fun owner => countTransaction_node owner img e l,
      fun role id owner => ⟨fun it flies mine => ?_, fun gone => ?_⟩, fun owner => ⟨fun read => ?_, fun write => ?_⟩,
      fun owner => ⟨fun n found lost success => ?_, fun unfound => ?_⟩,
      fun owner => ⟨fun serial address bind => deliverOutcome_bind e l owner bind,
        fun reset round => deliverOutcome_round e l owner round⟩, rfl, fun result => ?_⟩
    · rw [deliverOutcome_item e l owner, deliverToItem_of_itemOf flies, if_pos mine]
    · rw [deliverOutcome_item e l owner, deliverToItem_gone gone]
    · rw [deliverOutcome_window e l owner]
      cases e <;> exact (finishAccess_eq _ _).1 read
    · rw [deliverOutcome_window e l owner]
      cases e <;> exact (finishAccess_eq _ _).2 write
    · intro known found'
      rw [deliverOutcome_probe e l owner, show (e != .failure) = true by simpa using success,
        probeEnds_found found lost]
      rfl
    · rw [deliverOutcome_probe e l owner]
      exact probeEnds_unmoved (unfound.imp_left fun failed => by simp [failed])
    · intro waits left
      have waiting : windowWaits l = true ↔ waits := by simp [windowWaits, waits, k]
      refine ⟨fun idle => if_neg (mt waiting.1 idle), fun waits read => ?_, fun waits write => ?_⟩
      · exact (if_pos (waiting.2 waits)).trans ((finishAccess_eq _ _).1 read)
      · exact (if_pos (waiting.2 waits)).trans ((finishAccess_eq _ _).2 write)

end Sys2Proof.Machine


/-! The node's acceptance of a motion and of a SET (R104, R107, R121, R126, R127, R129). -/

namespace Sys2Proof.Machine

/-! ### What the end of a transaction leaves unchanged beside the link -/

theorem arbitrate_onlyLink (l : Live) : arbitrate l = { l with link := (arbitrate l).link } := by
  rw [arbitrate]
  split
  · split <;> rfl
  · rfl

theorem placeRequest_onlyLink (owner : LinkOwner) (address : Nat) (command : LinkCommand) (cls : LinkClass) (l : Live) :
    placeRequest owner address command cls l = { l with link := (placeRequest owner address command cls l).link } :=
  arbitrate_onlyLink _

theorem startSeries_onlyLink (l : Live) : startSeries l = { l with link := (startSeries l).link } := by
  rw [startSeries]
  split
  · rfl
  · exact placeRequest_onlyLink ..

theorem afterProbes_onlyLink (l : Live) : afterProbes l = { l with link := (afterProbes l).link } := by
  rw [afterProbes]
  split
  · exact startSeries_onlyLink _
  · rfl

theorem freeLink_onlyLink (l : Live) : freeLink l = { l with link := (freeLink l).link } := by
  have arbitrated := arbitrate_onlyLink (l.onLinkBlock fun k => { k with onLink := none, sent := false, replyWindow := none })
  rw [freeLink, afterProbes_onlyLink, arbitrated]
  rfl

/-- The count of a transaction that did not fail changes the directory alone. -/
theorem countTransaction_onlyLink {e : Ending} (success : e ≠ .failure) (img : Bank) (q : LinkRequest) (l : Live) :
    countTransaction img q e l = { l with link := (countTransaction img q e l).link } := by
  by_cases owner : q.owner = .rollcall
  · rw [countTransaction_rollcall owner]
  · rw [countTransaction_node owner, decide_eq_true success]
    match found : l.link.nodeAt q.address with
    | none => simp only [countOutcome, found]
    | some n =>
      by_cases counts : n.state = .bound ∨ n.state = .spare
      · rw [countOutcome_success found counts]
      · simp only [countOutcome, found, if_neg counts]

theorem settleCheck_busy {l : Live} {r : Role} {it : Item} (flies : itemOf l r = some it) : settleCheck l = l := by
  refine if_neg fun rests => ?_
  have member := List.mem_of_find?_eq_some flies
  have empty : l.sequencer.inFlight = [] := by
    obtain ⟨-, quiet, -⟩ := rests
    simp only [Sequencer.quiet, Bool.and_eq_true, List.isEmpty_iff] at quiet
    exact quiet.2
  simp [empty] at member

/-! ### Accepted motions (R121, R127) -/

theorem deadlineFor_eq (img : Bank) (it : Item) (position : Nat) :
    deadlineFor img it position =
      let stroke := (binding img it.role).travel * 100
      let way := max it.level position - min it.level position
      if it.kind = .home then stroke * 3 / 2 + 1000 else (stroke * way + 999) / 1000 + 1000 := by
  cases kind : it.kind <;> simp [deadlineFor, kind, ceilDiv]

/-- An item changed where it stands is still its actuator's. -/
theorem itemOf_updateItem {l : Live} {r : Role} {it : Item} (flies : itemOf l r = some it) {f : Item → Item}
    (keeps : ∀ i, (f i).role = i.role) : itemOf (updateItem r f l) r = some (f it) := by
  have same : ((fun i : Item => i.role == r) ∘ fun i : Item => if i.role = r then f i else i) = fun i => i.role == r := by
    funext i
    by_cases here : i.role = r <;> simp [here, keeps]
  have found : l.sequencer.inFlight.find? (fun i => i.role == r) = some it := flies
  rw [itemOf, updateItem, setInFlight, List.find?_map, same, found, Option.map_some, if_pos (role_of_itemOf flies)]

theorem isMove_iff (q : LinkRequest) : isMove q = true ↔ ∃ channel position, q.command = .move channel position := by
  cases command : q.command <;> simp [isMove, command]

theorem isHome_iff (q : LinkRequest) : isHome q = true ↔ ∃ channel, q.command = .home channel := by
  cases command : q.command <;> simp [isHome, command]

theorem isSet_iff (q : LinkRequest) : isSet q = true ↔ ∃ channel level, q.command = .set channel level := by
  cases command : q.command <;> simp [isSet, command]

theorem isHalt_iff (q : LinkRequest) : isHalt q = true ↔ ∃ channel, q.command = .halt channel := by
  cases command : q.command <;> simp [isHalt, command]

theorem isPoll_iff (q : LinkRequest) : isPoll q = true ↔ (∃ channel, q.command = .query channel) ∧ isProbe q = false := by
  cases command : q.command <;> simp [isPoll, command]

/-- The outcome of a transaction reaches the item that asked for it. -/
theorem deliverOutcome_own {img : Bank} {q : LinkRequest} {r : Role} {it : Item} {l : Live}
    (owner : q.owner = .item r it.id) (flies : itemOf l r = some it) (e : Ending) :
    deliverOutcome img q e l = itemOutcome img it q.command e l := by
  rw [deliverOutcome_item e l owner, deliverToItem_of_itemOf flies, if_pos rfl]

/-- The item of an accepted motion as it runs (R121, R127). -/
def runningItem (img : Bank) (it : Item) (position now : Nat) (i : Item) : Item :=
  { i with phase := .running, issued := now, deadline := some (now + deadlineFor img it position),
           poll := some (now + pollInterval img) }

theorem motionAccepted_alone {img : Bank} {it : Item} {l : Live}
    (alone : it.kind ≠ .move ∨ (l.sequencer.actuators.get it.role).pendingTarget = none) :
    motionAccepted img it l =
      updateItem it.role (runningItem img it (l.sequencer.actuators.get it.role).position l.now) l := by
  unfold motionAccepted
  dsimp only
  split
  next t kind pending =>
    rcases alone with other | none
    · exact absurd kind other
    · exact absurd (none.symm.trans pending) (by simp)
  next => rfl

theorem motionAccepted_pending {img : Bank} {it : Item} {l : Live} {t : Target} (move : it.kind = .move)
    (pending : (l.sequencer.actuators.get it.role).pendingTarget = some t) :
    motionAccepted img it l = arrivalBody img it.role t (setPending it.role none
      (updateItem it.role (runningItem img it (l.sequencer.actuators.get it.role).position l.now) l)) := by
  unfold motionAccepted
  dsimp only
  split
  next u kind pends =>
    obtain rfl : t = u := Option.some.inj (pending.symm.trans pends)
    rfl
  next other => exact absurd pending (other t move)

theorem itemOutcome_accept {c : LinkCommand} (motion : (∃ channel position, c = .move channel position) ∨ ∃ channel, c = .home channel)
    (img : Bank) (it : Item) (l : Live) : itemOutcome img it c .accept l = motionAccepted img it l := by
  rcases motion with ⟨channel, position, rfl⟩ | ⟨channel, rfl⟩ <;> rfl

/-- Settles O32. -/
theorem acceptedMotionsRun : Obligations.AcceptedMotionsRun := by
  intro s q r reply it c free busy sent owner fits accept flies img a stroke way time runs counted running
  obtain rfl := role_of_itemOf flies
  have link : counted = { s.live with link := counted.link } := countTransaction_onlyLink (by simp) ..
  have flying : itemOf counted it.role = some it := by rw [link]; exact flies
  have motion : (∃ channel position, q.command = .move channel position) ∨ ∃ channel, q.command = .home channel :=
    fits.imp (fun move => (isMove_iff q).1 move.2) fun home => (isHome_iff q).1 home.2
  have ends : exec c s = .next { s with live := settleCheck (freeLink (motionAccepted img it counted)) } := by
    rw [exec_reply free busy sent (fits.imp_right .inl), accept, transactionEnd, deliverOutcome_own owner flying,
      itemOutcome_accept motion]
  have runs_eq : updateItem it.role (runningItem img it (counted.sequencer.actuators.get it.role).position counted.now) counted =
      running := by
    have sequencer : counted.sequencer = s.live.sequencer := by rw [link]
    have now : counted.now = s.live.now := by rw [link]
    simp only [updateItem, setInFlight, runningItem, deadlineFor_eq, sequencer, now, running, runs, time, way, stroke, a]
  refine ⟨fun alone => ?_, fun target pending move => ?_⟩
  · have alone : it.kind ≠ .move ∨ (counted.sequencer.actuators.get it.role).pendingTarget = none := by
      rw [link]; exact alone
    rw [motionAccepted_alone alone, runs_eq] at ends
    have runs_on : itemOf (freeLink running) it.role = some (runningItem img it
        (counted.sequencer.actuators.get it.role).position counted.now it) := by
      rw [freeLink_onlyLink, ← runs_eq]
      exact itemOf_updateItem flying fun _ => rfl
    rw [settleCheck_busy runs_on, freeLink_onlyLink] at ends
    refine ⟨_, ends, rfl, ?_, ?_, ?_, ?_, ?_, rfl⟩ <;>
      simp only [running] <;>
      rw [link]
  · have pending : (counted.sequencer.actuators.get it.role).pendingTarget = some target := by rw [link]; exact pending
    rw [ends, motionAccepted_pending move pending, runs_eq]

end Sys2Proof.Machine


/-! The node's acceptance of a SET, what waited for it, and the service of a pending target (R104, R126, R129, R134). -/

namespace Sys2Proof.Machine

theorem filter_queue_of_queueEntry {l : Live} {r : Role} (empty : queueEntry l r = none) :
    l.sequencer.queue.filter (fun e => e.role != r) = l.sequencer.queue := by
  rw [List.filter_eq_self]
  intro e member
  have apart := List.find?_eq_none.1 empty e member
  simpa using apart

theorem hasWork_iff (l : Live) (r : Role) : hasWork l r = true ↔
    queueEntry l r ≠ none ∨ itemOf l r ≠ none ∨ ∃ m, l.sequencer.suspended = some m ∧ m.role = r := by
  simp [hasWork, Option.isSome_iff_ne_none, or_assoc, Option.any_eq_true]

section Serve

variable {img : Bank} {r : Role} {l : Live}

theorem serve_none (none : (l.sequencer.actuators.get r).pendingTarget = none) : serve img r l = l := by
  simp only [serve, actuator, none]

theorem serve_hasWork (works : hasWork l r = true) : serve img r l = l := by
  unfold serve
  split
  · rfl
  · exact if_pos works

theorem serve_pending {t : Target} (pending : (l.sequencer.actuators.get r).pendingTarget = some t)
    (free : ¬hasWork l r = true) :
    serve img r l =
      if l.part.state = .run then
        (if (l.sequencer.actuators.get r).state = .idle then targetArrival img r t (setPending r none l)
          else setPending r none l)
      else if positioned r = false ∧ t = offTarget then
        offer img (joinTail (newEntry r .set t false)
          (if (actuator (setPending r none l) r).state = .idle then setActuatorState r .queued (setPending r none l)
            else setPending r none l))
      else setPending r none l := by
  simp only [serve, actuator, pending]
  refine (if_neg free).trans (ite_of_iff Iff.rfl ?_ rfl)
  split
  next idle => rw [if_pos idle]
  next awake => rw [if_neg awake]

end Serve

/-- The place of an actuator without work: it holds no entry and no suspended move. -/
theorem filter_suspended {l : Live} {r : Role} (free : ¬∃ m, l.sequencer.suspended = some m ∧ m.role = r) :
    l.sequencer.suspended.filter (fun m => m.role != r) = l.sequencer.suspended := by
  match kept : l.sequencer.suspended with
  | none => rfl
  | some m =>
    have apart : m.role ≠ r := fun same => free ⟨m, kept, same⟩
    simp [Option.filter, apart]

theorem placeKeptOrder_none {it : Item} (none : it.shedOrder = none) (l : Live) : placeKeptOrder it l = l := by
  simp only [placeKeptOrder, none]

theorem placeKeptOrder_some {it : Item} {level : Nat} (order : it.shedOrder = some level) {l : Live}
    (rests : itemOf l it.role = none) :
    placeKeptOrder it l =
      let u := l.sequencer
      let a := u.actuators.get it.role
      let shed : QueueEntry :=
        { role := it.role, kind := .set, level := min level (l.budget.consumers.get it.role).accepted, urgent := true,
          holdOff := joinHold l it.role none, shed := true }
      { l with sequencer := { u with
          actuators := u.actuators.set it.role { a with state := .queued }
          queue := tailInsert shed (u.queue.filter fun x => x.role != it.role)
          suspended := u.suspended.filter fun m => m.role != it.role } } := by
  simp only [placeKeptOrder, order]
  rw [joinTail_eq (by exact rests)]
  rfl

theorem restState_eq (st : ActuatorState) :
    restState st = if st = .uncertain ∨ st = .queued ∨ st = .moving then .idle else st := by
  cases st <;> rfl

/-- An actuator loses its pending target and, where it was IDLE, is QUEUED. -/
theorem queuedFromIdle_eq (r : Role) (l : Live) :
    (if (actuator (setPending r none l) r).state = .idle then setActuatorState r .queued (setPending r none l)
      else setPending r none l) =
    onActuator r (fun a => { a with pendingTarget := none, state := if a.state = .idle then .queued else a.state }) l := by
  by_cases idle : (l.sequencer.actuators.get r).state = .idle <;>
    simp [actuator, setPending, setActuatorState, onActuator, updateAt, idle]

/-- The live part once the node has accepted a SET, before what follows from the lower load (R104, R107, R121). -/
def setEnded (img : Bank) (it : Item) (l : Live) : Live :=
  let u := l.sequencer
  let r := it.role
  let a := u.actuators.get r
  { l with
    sequencer := { u with
      inFlight := u.inFlight.filter fun i => i.role != r
      actuators := u.actuators.set r { a with position := it.level, state := restState a.state } }
    budget := { l.budget with
      consumers := l.budget.consumers.set r (acceptedSet img r (l.budget.consumers.get r))
      shedList := if it.shed then l.budget.shedList.filter fun e => e.role != r else l.budget.shedList } }

theorem setAccepted_eq (img : Bank) (it : Item) (l : Live) :
    setAccepted img it l =
      let old := l.budget.consumers.get it.role
      let ordered := if it.shedOrder.isSome then offer img (placeKeptOrder it (setEnded img it l)) else setEnded img it l
      serve img it.role (if (acceptedSet img it.role old).commitment < old.commitment then roomNotice img ordered
        else ordered) := by
  have ended : (if it.shed then dropShed it.role (report it.role (acceptedSet img it.role) (onActuator it.role
        (fun a => { a with position := it.level, state := restState a.state }) (removeItem it.role l))).1
      else (report it.role (acceptedSet img it.role) (onActuator it.role
        (fun a => { a with position := it.level, state := restState a.state }) (removeItem it.role l))).1) =
      setEnded img it l := by
    cases shed : it.shed <;> simp only [setEnded, shed] <;> rfl
  unfold setAccepted
  dsimp only
  rw [ended]
  have released : (report it.role (acceptedSet img it.role) (onActuator it.role
      (fun a => { a with position := it.level, state := restState a.state }) (removeItem it.role l))).2 =
      decide ((acceptedSet img it.role (l.budget.consumers.get it.role)).commitment <
        (l.budget.consumers.get it.role).commitment) := rfl
  rw [released, afterRelease]
  cases order : it.shedOrder with
  | none => rw [placeKeptOrder_none order]; simp
  | some level => simp

/-- Settles O33. -/
theorem acceptedSetsSettle : Obligations.AcceptedSetsSettle := by
  refine ⟨?accepted, fun img r l => ?served, fun it l => ?kept⟩
  case accepted =>
    intro s q r reply it free busy sent owner set accept flies img l a old level new rest ended ordered noticed
    obtain rfl := role_of_itemOf flies
    have link : l = { s.live with link := l.link } := countTransaction_onlyLink (by simp) ..
    have flying : itemOf l it.role = some it := by rw [link]; exact flies
    obtain ⟨channel, level', command⟩ := (isSet_iff q).1 set
    rw [exec_reply free busy sent (.inr (.inr (.inl ⟨rfl, set⟩))), accept, transactionEnd,
      deliverOutcome_own owner flying, command]
    have settled : itemOutcome img it (.set channel level') .accept l = serve img it.role noticed := by
      have sequencer : l.sequencer = s.live.sequencer := by rw [link]
      have budget : l.budget = s.live.budget := by rw [link]
      refine (setAccepted_eq img it l).trans ?_
      simp only [setEnded, restState_eq, sequencer, budget]
      rfl
    exact congrArg (fun m => Host.Outcome.next { s with live := settleCheck (freeLink m) }) settled
  case served =>
    intro u a works becomes hold off queue rest placed
    refine ⟨fun none => ?_, fun t pending free => ?_⟩
    · rcases none with none | works
      · exact serve_none none
      · exact serve_hasWork ((hasWork_iff l r).2 works)
    · rw [serve_pending pending (mt (hasWork_iff l r).1 free)]
      obtain ⟨empty, flight⟩ := not_or.1 free
      obtain ⟨rests, apart⟩ := not_or.1 flight
      have rests : itemOf l r = none := Decidable.not_not.1 rests
      have empty : queueEntry l r = none := Decidable.not_not.1 empty
      refine ite_of_iff Iff.rfl rfl ?_
      have set : positioned r = false ↔ 12 ≤ r.val := by simp [positioned]
      by_cases off : positioned r = false ∧ t = offTarget
      · refine (if_pos off).trans (Eq.trans ?_ (if_pos (off.imp_left set.1)).symm)
        rw [queuedFromIdle_eq, joinTail_eq (by exact rests)]
        obtain ⟨-, rfl⟩ := off
        refine congrArg (offer img) ?_
        simp only [newEntry, onActuator, updateAt, filter_queue_of_queueEntry empty, filter_suspended apart, joinHold, actuator,
          get_set_self]
        rfl
      · exact (if_neg off).trans (if_neg (mt (And.imp_left set.2) off)).symm
  case kept =>
    intro u r a hold
    refine ⟨fun none => placeKeptOrder_none none l, fun level order rests => ?_⟩
    rw [placeKeptOrder_some order rests]
    rfl

end Sys2Proof.Machine


/-! The node's answers to a HALT and to a poll, and how a motion ends (R124, R126 to R128). -/

namespace Sys2Proof.Machine

/-! ### Latches beside the sequencer -/

/-- STATUS_E shows nothing of the sequencer or of the link's waiting requests. -/
theorem latch_withSequencer (k : Kind) (n : Nat) (u : Sequencer) (l : Live) :
    latch k n { l with sequencer := u } = { latch k n l with sequencer := u } := by
  unfold latch askStatusE
  dsimp only
  repeat' split
  all_goals rfl

theorem onActuator_latch (r : Role) (f : Actuator → Actuator) (k : Kind) (n : Nat) (l : Live) :
    onActuator r f (latch k n l) = latch k n (onActuator r f l) := by
  rw [onActuator, latch_sequencer]
  exact (latch_withSequencer ..).symm

theorem onActuator_onActuator (r : Role) (f g : Actuator → Actuator) (l : Live) :
    onActuator r f (onActuator r g l) = onActuator r (fun a => f (g a)) l := by
  simp [onActuator, updateAt]

/-! ### The item's own outcome -/

section Own

variable {s : State} {q : LinkRequest} {it : Item} (free : s.held = false) (busy : s.live.link.onLink = some q)
  (sent : s.live.link.sent = true) (owner : q.owner = .item it.role it.id)
include free busy sent owner

/-- The reply to an item's request ends in what the item makes of it. -/
theorem exec_reply_own {c : Instr} {reply : LinkReply}
    (fits : (c = .moveReply reply ∧ isMove q = true) ∨ (c = .homeReply reply ∧ isHome q = true) ∨
      (c = .setReply reply ∧ isSet q = true) ∨ (c = .haltReply reply ∧ isHalt q = true) ∨
      (c = .queryReply reply ∧ isPoll q = true) ∨ (c = .probeReply reply ∧ isProbe q = true) ∨
      (c = .bindReply reply ∧ isBind q = true) ∨ (c = .readReply reply ∧ isRead q = true) ∨
      (c = .writeReply reply ∧ isWrite q = true))
    (flies : itemOf (countTransaction s.active q (replyEnding q.command reply) s.live) it.role = some it) :
    exec c s = .next { s with live := settleCheck (freeLink (itemOutcome s.active it q.command (replyEnding q.command reply)
      (countTransaction s.active q (replyEnding q.command reply) s.live))) } := by
  rw [exec_reply free busy sent fits, transactionEnd, deliverOutcome_own owner flies]

end Own

theorem itemOf_countTransaction {q : LinkRequest} {e : Ending} (success : e ≠ .failure) (img : Bank) (l : Live) (r : Role) :
    itemOf (countTransaction img q e l) r = itemOf l r := by
  rw [countTransaction_onlyLink success]
  rfl

theorem sequencer_countTransaction {q : LinkRequest} {e : Ending} (success : e ≠ .failure) (img : Bank) (l : Live) :
    (countTransaction img q e l).sequencer = l.sequencer := by
  rw [countTransaction_onlyLink success]

theorem itemOutcome_halt_failed {e : Ending} (other : ∀ x, e ≠ .position x) (img : Bank) (it : Item) (channel : Nat)
    (l : Live) : itemOutcome img it (.halt channel) e l = haltFailed img it l := by
  cases e with
  | position p => exact absurd rfl (other p)
  | _ => rfl

theorem itemOutcome_query_failed {e : Ending} (other : ∀ x m, e ≠ .motion x m) (img : Bank) (it : Item) (channel : Nat)
    (l : Live) : itemOutcome img it (.query channel) e l = restartPoll img it l := by
  cases e with
  | motion p m => exact absurd rfl (other p m)
  | _ => rfl

theorem haltFailed_eq {it : Item} {why : HaltReason} (phase : it.phase = .halting why) (img : Bank) (l : Live) :
    haltFailed img it l = placeRequest (.item it.role it.id) ((nodeAddress img l it.role).getD 0)
      (.halt (binding img it.role).channel) (if why = .deadline then .poll else .urgent) l := by
  cases why <;> simp only [haltFailed, phase] <;> rfl

theorem restartPoll_eq (img : Bank) (it : Item) (l : Live) :
    restartPoll img it l = setInFlight (l.sequencer.inFlight.map fun i =>
      if i.role = it.role ∧ i.phase = .running then { i with poll := some (l.now + pollInterval img) } else i) l := by
  refine congrArg (setInFlight · l) (List.map_congr_left fun i _ => ?_)
  by_cases same : i.role = it.role
  · rw [if_pos same]
    exact ite_of_iff (and_iff_right same).symm rfl rfl
  · rw [if_neg same, if_neg fun both => same both.1]

/-! ### How a motion ends (R124, R126, R128) -/

/-- An actuator's item has ended: its waiting requests are withdrawn, and its record becomes another. -/
def motionOver (r : Role) (b : Actuator) (l : Live) : Live :=
  { l with
    sequencer := { l.sequencer with
      actuators := l.sequencer.actuators.set r b
      inFlight := l.sequencer.inFlight.filter fun i => i.role != r }
    link := { l.link with requests := l.link.requests.filter fun x => !x.owner.isItemOf r } }

theorem motionEnded_eq (img : Bank) (it : Item) (position : Nat) (settled : Bool) (l : Live) :
    motionEnded img it position settled l =
      let a := l.sequencer.actuators.get it.role
      serve img it.role (releaseMotion img it.role (motionOver it.role
        { a with state := .idle, position := position, overruns := if settled then 0 else a.overruns } l)) := rfl

theorem motionFaulted_eq (img : Bank) (why : FaultReason) (it : Item) (l : Live) :
    motionFaulted img why it l =
      let a := l.sequencer.actuators.get it.role
      let m := motionOver it.role { a with state := .faulted, fault := some why, pendingTarget := none } l
      releaseMotion img it.role (if a.state = .faulted then m else latch kActuatorFault it.role.val m) := by
  have ended : ∀ f : Actuator → Actuator, onActuator it.role f (withdrawRole it.role (removeItem it.role l)) =
      motionOver it.role (f (l.sequencer.actuators.get it.role)) l := fun _ => rfl
  unfold motionFaulted becomeFaulted setPending
  dsimp only
  refine congrArg (releaseMotion img it.role) ?_
  have same : (actuator (withdrawRole it.role (removeItem it.role l)) it.role).state =
      (l.sequencer.actuators.get it.role).state := rfl
  rw [same]
  split
  · rw [onActuator_onActuator, ended]
  · rw [onActuator_latch, onActuator_onActuator, ended]

theorem itemOf_motionOver (r : Role) (b : Actuator) (l : Live) : itemOf (motionOver r b l) r = none := by
  simp [itemOf, motionOver, List.find?_eq_none]

/-- What a motion held is released, and a room notice follows where it held something (R104, R130). -/
theorem homeAgain_eq (img : Bank) (it : Item) (l : Live) :
    homeAgain img it l =
      let a := l.sequencer.actuators.get it.role
      let u := l.sequencer
      let home := newEntry it.role .home { level := 0, urgent := a.pendingTarget.any (·.urgent) } false
      let again : Live := motionOver it.role { a with state := .uncertain } l
      if l.part.state = .run then
        offer img (releaseMotion img it.role { again with sequencer := { again.sequencer with
          queue := tailInsert { home with holdOff := joinHold l it.role none } (u.queue.filter fun x => x.role != it.role)
          suspended := u.suspended.filter fun m => m.role != it.role } })
      else releaseMotion img it.role (motionOver it.role { a with state := .uncertain, pendingTarget := none } l) := by
  have ended : setActuatorState it.role .uncertain (withdrawRole it.role (removeItem it.role l)) =
      motionOver it.role { l.sequencer.actuators.get it.role with state := .uncertain } l := rfl
  unfold homeAgain
  dsimp only
  rw [ended]
  refine ite_of_iff Iff.rfl ?_ ?_
  · rw [joinTail_eq (by exact itemOf_motionOver ..)]
    simp [motionOver, newEntry, joinHold, actuator]
  · simp [motionOver, setPending, onActuator, updateAt]


theorem motionSuspended_eq (img : Bank) (it : Item) (position : Nat) (l : Live) :
    motionSuspended img it position l =
      let r := it.role
      let u := l.sequencer
      let a := u.actuators.get r
      let halted : Live := { l with sequencer := { u with
        actuators := u.actuators.set r { a with state := .suspended, position := position, pendingTarget := none }
        inFlight := u.inFlight.filter fun i => i.role != r
        queue := u.queue.filter fun x => x.role != r
        suspended := some { role := r, level := it.level, position := position } } }
      let m : Live := match a.pendingTarget with
        | none => halted
        | some t => arrivalBody img r t halted
      let c := m.budget.consumers.get r
      let free : Live :=
        { m with budget := { m.budget with consumers := m.budget.consumers.set r { c with commitment := 0 } } }
      if 0 < c.commitment then roomNotice img free else offer img free := by
  let r := it.role
  let a := l.sequencer.actuators.get r
  let moved : Live := { l with sequencer := { l.sequencer with
    actuators := l.sequencer.actuators.set r { a with state := .suspended, position := position }
    inFlight := l.sequencer.inFlight.filter fun i => i.role != r
    queue := l.sequencer.queue.filter fun x => x.role != r
    suspended := some { role := r, level := it.level, position := position } } }
  have leaves : setSuspended (some { role := r, level := it.level, position := position })
      (onActuator r (fun a => { a with state := .suspended, position := position }) (leaveWork r l)) = moved := by
    rw [leaveWork_eq]
    rfl
  have record : actuator moved r = { a with state := .suspended, position := position } := get_set_self ..
  have unpending : setPending r none moved = { moved with sequencer := { moved.sequencer with
      actuators := l.sequencer.actuators.set r
        { a with state := .suspended, position := position, pendingTarget := none } } } := by
    simp [setPending, onActuator, updateAt, moved]
  unfold motionSuspended
  dsimp only
  rw [leaves, record, unpending]
  cases pending : a.pendingTarget with
  | none =>
    have halted : ({ a with state := .suspended, position := position } : Actuator) =
        { a with state := .suspended, position := position, pendingTarget := none } := by rw [← pending]
    simp only [moved, halted]
    exact ite_of_iff decide_eq_true_iff rfl rfl
  | some t =>
    exact ite_of_iff decide_eq_true_iff rfl rfl

theorem motionOverrun_eq (img : Bank) (it : Item) (position : Nat) (l : Live) :
    motionOverrun img it position l =
      let n := countUp (l.sequencer.actuators.get it.role).overruns 3
      let late := latch kMoveOverrun it.role.val
        (onActuator it.role (fun a => { a with position := position, overruns := countUp a.overruns 3 }) l)
      if n = 3 then motionFaulted img .stall it late
      else if it.kind = .home then homeAgain img it late else motionEnded img it position false late := by
  unfold motionOverrun
  simp [actuator, onActuator, updateAt, maxOverruns]

theorem haltAnswered_suspend {it : Item} (phase : it.phase = .halting .suspend) (img : Bank) (position : Nat) (l : Live) :
    haltAnswered img it position l =
      if within (binding img it.role).deadband position it.level = true ∨ l.sequencer.suspended ≠ none then
        motionEnded img it position (within (binding img it.role).deadband position it.level) l
      else motionSuspended img it position l := by
  simp only [haltAnswered, phase, Option.isSome_iff_ne_none]

/-- Settles O34. -/
theorem haltAndPollRepliesEndOrRecord : Obligations.HaltAndPollRepliesEndOrRecord := by
  refine ⟨fun s q r reply it p free busy sent owner flies => ?_, fun img it position l => ?_⟩
  · obtain rfl := role_of_itemOf flies
    intro img a position l placed done
    have sense : nodeSense img it.role p = position := nodeSense_eq img it.role p
    have replied (c : Instr) (fits : c = .haltReply reply ∧ isHalt q = true ∨ c = .queryReply reply ∧ isPoll q = true)
        (flying : itemOf l it.role = some it) :
        exec c s = done (itemOutcome img it q.command (replyEnding q.command reply) l) :=
      exec_reply_own free busy sent owner (.inr (.inr (.inr (fits.imp_right .inl)))) flying
    have kept (success : replyEnding q.command reply ≠ .failure) :
        s.live.sequencer = l.sequencer ∧ itemOf l it.role = some it :=
      ⟨(sequencer_countTransaction success ..).symm, (itemOf_countTransaction success ..).trans flies⟩
    clear_value l
    refine ⟨fun halt answer => ?_, fun halt other flying why phase => ?_, fun poll m answer => ?_,
      fun poll other flying => ?_⟩
    · obtain ⟨channel, command⟩ := (isHalt_iff q).1 halt
      obtain ⟨sequencer, flying⟩ := kept (by simp [answer])
      have record : a = l.sequencer.actuators.get it.role := by simp only [a, sequencer]
      rw [replied _ (.inl ⟨rfl, halt⟩) flying, answer, command]
      refine ⟨fun phase => ?_, fun phase => ?_, fun phase => ?_⟩
      · intro ended
        refine congrArg done ?_
        rw [itemOutcome, sense]
        simp only [haltAnswered, phase, motionEnded_eq, ended, record]
        rfl
      · intro n late
        refine congrArg done ?_
        rw [itemOutcome, sense]
        simp only [haltAnswered, phase, motionOverrun_eq, late, n, record, placed, onActuator, updateAt, countUp]
        rfl
      · intro there
        refine congrArg done ?_
        rw [itemOutcome, sense, haltAnswered_suspend phase, sequencer]
    · obtain ⟨channel, command⟩ := (isHalt_iff q).1 halt
      rw [replied _ (.inl ⟨rfl, halt⟩) flying, command, itemOutcome_halt_failed (by simpa [command] using other),
        haltFailed_eq phase]
    · obtain ⟨⟨channel, command⟩, -⟩ := (isPoll_iff q).1 poll
      obtain ⟨sequencer, flying⟩ := kept (by simp [answer])
      have record : a = l.sequencer.actuators.get it.role := by simp only [a, sequencer]
      intro items noted
      rw [replied _ (.inr ⟨rfl, poll⟩) flying, answer, command]
      refine congrArg done ?_
      rw [itemOutcome, sense]
      simp only [pollAnswered, restartPoll_eq, noted, placed, record, onActuator, updateAt]
      rfl
    · obtain ⟨⟨channel, command⟩, -⟩ := (isPoll_iff q).1 poll
      rw [replied _ (.inr ⟨rfl, poll⟩) flying, command, itemOutcome_query_failed (by simpa [command] using other),
        restartPoll_eq]
      rfl
  · intro u r a items others apart k ended released hold urgent home queue again halted m c free
    refine ⟨releaseMotion_eq .., fun settled => ?_, fun why => ?_, ?_, motionSuspended_eq ..⟩
    · simp only [motionEnded_eq, releaseMotion_eq]
      rfl
    · simp only [motionFaulted_eq, releaseMotion_eq]
      rfl
    · simp only [homeAgain_eq, releaseMotion_eq]
      rfl

end Sys2Proof.Machine


/-! Work that a node refuses or that fails (R107, R122, R129, R130, R134). -/

namespace Sys2Proof.Machine

@[simp] theorem latch_budget (k : Kind) (n : Nat) (l : Live) : (latch k n l).budget = l.budget := by
  unfold latch askStatusE
  dsimp only
  repeat' split
  all_goals rfl

theorem onActuator_of_same {r : Role} {f : Actuator → Actuator} {l : Live}
    (same : f (l.sequencer.actuators.get r) = l.sequencer.actuators.get r) : onActuator r f l = l := by
  rw [onActuator, updateAt, same, set_get_same]

/-- An actuator that was MOVING is QUEUED. -/
theorem queuedFromMoving (r : Role) (l : Live) :
    (if (actuator l r).state = .moving then setActuatorState r .queued l else l) =
      onActuator r (fun a => { a with state := if a.state = .moving then .queued else a.state }) l := by
  by_cases moving : (l.sequencer.actuators.get r).state = .moving
  · simp [actuator, setActuatorState, onActuator, updateAt, moving]
  · rw [onActuator_of_same (by simp [moving])]
    exact if_neg moving

/-- An item's work back at the head of its class with a hold-off, and its actuator's record (R122). -/
def returned (img : Bank) (it : Item) (b : Actuator) (l : Live) : Live :=
  let u := l.sequencer
  let e : QueueEntry :=
    { role := it.role, kind := it.kind, level := it.asked, urgent := it.urgent,
      holdOff := some (l.now + pollInterval img), shed := false }
  { l with sequencer := { u with
      actuators := u.actuators.set it.role b
      queue := headInsert e (u.queue.filter fun x => x.role != it.role)
      inFlight := u.inFlight.filter fun i => i.role != it.role
      suspended := u.suspended.filter fun m => m.role != it.role } }

theorem returned_actuator (img : Bank) (it : Item) (b : Actuator) (l : Live) :
    (returned img it b l).sequencer.actuators.get it.role = b := get_set_self ..

theorem returnEntry_eq (img : Bank) (it : Item) (l : Live) :
    returnEntry img it l =
      let a := l.sequencer.actuators.get it.role
      returned img it { a with state := if a.state = .moving then .queued else a.state } l := by
  rw [returnEntry]
  dsimp only
  rw [queuedFromMoving, placeHead_eq]
  rfl

/-- The retry time set and the item gone: a return from there is a return from before (R122). -/
theorem returnEntry_setRetry (img : Bank) (it : Item) (b : Budget) (l : Live) :
    returnEntry img it { setRetry img it.role (removeItem it.role l) with budget := b } =
      let a := l.sequencer.actuators.get it.role
      returned img it { a with retryTime := some (l.now + pollInterval img),
                               state := if a.state = .moving then .queued else a.state } { l with budget := b } := by
  rw [returnEntry_eq]
  simp [returned, setRetry, removeItem, setInFlight, onActuator, updateAt]

theorem pendingAtEntry_eq (img : Bank) (r : Role) (l : Live) :
    pendingAtEntry img r l = match (l.sequencer.actuators.get r).pendingTarget with
      | none => l
      | some t => arrivalBody img r t (setPending r none l) := rfl

theorem dropShedAndTest_eq (img : Bank) (r : Role) (l : Live) :
    dropShedAndTest img r l =
      if l.budget.shedList.any (fun e => e.role == r) = true then testShed img (dropShed r l) else l :=
  ite_of_iff (by simp [Budget.shedEntry]) rfl rfl

/-! ### Motions (R122, R130, R134) -/

section Motion

variable {c : LinkCommand} (motion : (∃ channel position, c = .move channel position) ∨ ∃ channel, c = .home channel)
  (img : Bank) (it : Item) (l : Live)
include motion

theorem itemOutcome_motion_failed {e : Ending} (failed : e = .busy ∨ e = .failure) :
    itemOutcome img it c e l = motionFailed img it l := by
  rcases motion with ⟨channel, position, rfl⟩ | ⟨channel, rfl⟩ <;> rcases failed with rfl | rfl <;> rfl

theorem itemOutcome_motion_refused {e : Ending} {why : FaultReason}
    (refused : (e = .range ∧ why = .refused) ∨ (e = .fault ∧ why = .nodeFault)) :
    itemOutcome img it c e l = motionFaulted img why it l := by
  rcases motion with ⟨channel, position, rfl⟩ | ⟨channel, rfl⟩ <;> rcases refused with ⟨rfl, rfl⟩ | ⟨rfl, rfl⟩ <;> rfl

end Motion

theorem motionFailed_run {it : Item} {l : Live} (run : l.part.state = .run) (img : Bank) :
    motionFailed img it l =
      let a := l.sequencer.actuators.get it.role
      let soon := some (l.now + pollInterval img)
      let queued : Actuator := { a with retryTime := soon, state := if a.state = .moving then .queued else a.state }
      offer img (if it.kind = .home then returned img it { a with retryTime := soon, state := .uncertain } l
        else if it.kind = .move then pendingAtEntry img it.role (returned img it queued l)
        else returned img it queued l) := by
  unfold motionFailed
  dsimp only
  refine (if_pos run).trans (congrArg (offer img) ?_)
  cases kind : it.kind <;>
    simp [returnEntry_eq, returned, setRetry, removeItem, setInFlight, onActuator, updateAt, setActuatorState]

theorem motionFailed_settling {it : Item} {l : Live} (settling : l.part.state ≠ .run) (img : Bank) :
    motionFailed img it l =
      let a := l.sequencer.actuators.get it.role
      let soon := some (l.now + pollInterval img)
      let state : ActuatorState := if it.kind = .home then .uncertain else .idle
      releaseMotion img it.role { l with sequencer := { l.sequencer with
        actuators := l.sequencer.actuators.set it.role { a with retryTime := soon, state := state, pendingTarget := none }
        inFlight := l.sequencer.inFlight.filter fun x => x.role != it.role } } := by
  unfold motionFailed
  dsimp only
  refine (if_neg settling).trans ?_
  simp [setPending, setActuatorState, setRetry, removeItem, setInFlight, onActuator, updateAt]

/-! ### SETs (R107, R122, R129, R134) -/

section Set

variable (channel level : Nat) (img : Bank) (it : Item) (l : Live)

theorem itemOutcome_set_failed {e : Ending} (failed : e = .busy ∨ e = .failure) :
    itemOutcome img it (.set channel level) e l = setFailed img it l := by
  rcases failed with rfl | rfl <;> rfl

theorem itemOutcome_set_refused {e : Ending} {why : FaultReason}
    (refused : (e = .range ∧ why = .refused) ∨ (e = .fault ∧ why = .nodeFault)) :
    itemOutcome img it (.set channel level) e l = setRefused img why it l := by
  rcases refused with ⟨rfl, rfl⟩ | ⟨rfl, rfl⟩ <;> rfl

end Set

/-- A SET has ended without acceptance and does not return: its actuator rests, its level in transit is gone (R104). -/
def setRests (img : Bank) (it : Item) (l : Live) : Live :=
  let a := l.sequencer.actuators.get it.role
  { l with
    sequencer := { l.sequencer with
      actuators := l.sequencer.actuators.set it.role
        { a with retryTime := some (l.now + pollInterval img), state := if a.state = .moving then .idle else a.state }
      inFlight := l.sequencer.inFlight.filter fun x => x.role != it.role }
    budget := l.budget.onConsumer it.role (endedSet img it.role) }

/-- A SET has ended without acceptance and returns to the queue (R104, R122). -/
def setReturns (img : Bank) (it : Item) (pending : Option Target) (l : Live) : Live :=
  let a := l.sequencer.actuators.get it.role
  returned img it
    { a with retryTime := some (l.now + pollInterval img), pendingTarget := pending
             state := if a.state = .moving then .queued else a.state }
    { l with budget := l.budget.onConsumer it.role (endedSet img it.role) }

theorem setFailed_eq (img : Bank) (it : Item) (l : Live) :
    setFailed img it l =
      let a := l.sequencer.actuators.get it.role
      let used := l.budget.consumers.get it.role
      let released := fun m : Live =>
        if (endedSet img it.role used).commitment < used.commitment then roomNotice img m else m
      let rests := setRests img it l
      if it.shed = true then serve img it.role (testShed img (released (dropShed it.role rests)))
      else if it.shedOrder.isSome = true then serve img it.role (released (offer img (placeKeptOrder it rests)))
      else if l.part.state = .run then
        offer img (released (pendingAtEntry img it.role (setReturns img it a.pendingTarget l)))
      else if it.level = 0 ∧ a.pendingTarget ≠ some offTarget then
        offer img (released (setReturns img it none l))
      else serve img it.role (released rests) := by
  have rests : onActuator it.role (fun a => { a with state := if a.state = .moving then .idle else a.state })
      (report it.role (endedSet img it.role) (setRetry img it.role (removeItem it.role l))).1 = setRests img it l := by
    simp [report, setRests, setRetry, removeItem, setInFlight, onActuator, updateAt]
  have returns : returnEntry img it (report it.role (endedSet img it.role) (setRetry img it.role (removeItem it.role l))).1 =
      setReturns img it (l.sequencer.actuators.get it.role).pendingTarget l :=
    returnEntry_setRetry img it (l.budget.onConsumer it.role (endedSet img it.role)) l
  have unpending (pending : Option Target) : setPending it.role none (setReturns img it pending l) = setReturns img it none l := by
    simp [setPending, setReturns, returned, onActuator, updateAt]
  have flag (m : Live) : afterRelease img
      (report it.role (endedSet img it.role) (setRetry img it.role (removeItem it.role l))).2 m =
      if (endedSet img it.role (l.budget.consumers.get it.role)).commitment <
        (l.budget.consumers.get it.role).commitment then roomNotice img m else m :=
    ite_of_iff decide_eq_true_iff rfl rfl
  unfold setFailed
  dsimp only
  simp only [rests, returns, unpending, flag]
  refine ite_of_iff Iff.rfl rfl (ite_of_iff Iff.rfl rfl (ite_of_iff Iff.rfl rfl (ite_of_iff (and_congr Iff.rfl ?_) rfl rfl)))
  simp [report, actuator, setRetry, removeItem, setInFlight, onActuator, updateAt]

/-- A refused SET has ended: its actuator is FAULTED, its level in transit gone (R104, R122). -/
def setFaults (img : Bank) (why : FaultReason) (it : Item) (l : Live) : Live :=
  let a := l.sequencer.actuators.get it.role
  let ended : Live := { l with sequencer := { l.sequencer with
    actuators := l.sequencer.actuators.set it.role { a with state := .faulted, fault := some why }
    inFlight := l.sequencer.inFlight.filter fun x => x.role != it.role } }
  let noted := if a.state = .faulted then ended else latch kActuatorFault it.role.val ended
  { noted with budget := l.budget.onConsumer it.role (endedSet img it.role) }

theorem setRefused_eq (img : Bank) (why : FaultReason) (it : Item) (l : Live) :
    setRefused img why it l =
      let used := l.budget.consumers.get it.role
      let m := setFaults img why it l
      let tested := if l.budget.shedList.any (fun e => e.role == it.role) = true then testShed img (dropShed it.role m)
        else m
      serve img it.role (if (endedSet img it.role used).commitment < used.commitment then roomNotice img tested
        else tested) := by
  have budget : (becomeFaulted it.role why (removeItem it.role l)).budget = l.budget := by
    unfold becomeFaulted
    dsimp only
    split <;> simp [removeItem, setInFlight, onActuator]
  have faults : (report it.role (endedSet img it.role) (becomeFaulted it.role why (removeItem it.role l))).1 =
      setFaults img why it l := by
    simp only [report, budget]
    rfl
  have flag : (report it.role (endedSet img it.role) (becomeFaulted it.role why (removeItem it.role l))).2 =
      decide ((endedSet img it.role (l.budget.consumers.get it.role)).commitment <
        (l.budget.consumers.get it.role).commitment) := by
    simp only [report, budget]
    rfl
  unfold setRefused
  dsimp only
  rw [faults, flag, dropShedAndTest_eq]
  exact congrArg (serve img it.role) (ite_of_iff decide_eq_true_iff rfl rfl)

/-- Settles O35. -/
theorem refusedAndFailedWorkReturnsOrFaults : Obligations.RefusedAndFailedWorkReturnsOrFaults := by
  intro s q r reply it c free busy sent owner img ending l flies
  obtain rfl := role_of_itemOf flies
  have replied := fun fits => exec_reply_own (c := c) (reply := reply) free busy sent owner fits flies
  have answers : l = countTransaction s.active q (replyEnding q.command reply) s.live := rfl
  rw [← answers] at replied
  intro u a used soon others items apart ended charged entry queue back heard stale released rested queued faulted noted done
  have heard_eq (m : Live) (same : (m.sequencer.actuators.get it.role).pendingTarget = a.pendingTarget) :
      pendingAtEntry img it.role m = heard m := by
    simp only [pendingAtEntry_eq, same]
    rfl
  have noted_budget (m : Live) : (noted m).budget = m.budget := by
    simp only [noted]
    split <;> simp
  clear_value l
  refine ⟨fun fits => ?motion, fun ⟨command, mine, kind⟩ => ?set⟩
  case motion =>
    have motion : (∃ channel position, q.command = .move channel position) ∨ ∃ channel, q.command = .home channel :=
      fits.imp (fun move => (isMove_iff q).1 move.2.1) fun home => (isHome_iff q).1 home.2.1
    have replied : exec c s = done (itemOutcome img it q.command ending l) :=
      replied ((fits.imp (fun x => ⟨x.1, x.2.1⟩) fun x => ⟨x.1, x.2.1⟩).imp_right .inl)
    have kinds : it.kind = .move ∨ it.kind = .home := fits.imp (·.2.2) (·.2.2)
    refine ⟨fun failed => ⟨fun run => ?_, fun settling => ?_⟩, fun why refused => ?_⟩
    · rw [replied, itemOutcome_motion_failed motion _ _ _ failed, motionFailed_run run]
      refine congrArg (fun m => done (offer img m)) ?_
      by_cases home : it.kind = .home
      · rw [if_pos home, if_pos home]
        rfl
      · have move : it.kind = .move := kinds.resolve_right home
        rw [if_neg home, if_neg home, if_pos move]
        exact heard_eq _ (by rw [returned_actuator])
    · rw [replied, itemOutcome_motion_failed motion _ _ _ failed, motionFailed_settling settling, releaseMotion_eq]
    · rw [replied, itemOutcome_motion_refused motion _ _ _ refused, motionFaulted_eq, releaseMotion_eq]
      intro k none' m
      have budget := noted_budget m
      simp only [charged, released, none', used, ← show (noted m).budget = l.budget from budget]
      rfl
  case set =>
    have replied : exec c s = done (itemOutcome img it q.command ending l) := replied (.inr (.inr (.inl ⟨command, mine⟩)))
    obtain ⟨channel, level, set⟩ := (isSet_iff q).1 mine
    rw [set] at replied
    refine ⟨fun failed => ?_, fun why refused => ?_⟩
    · rw [replied, itemOutcome_set_failed _ _ _ _ _ failed]
      have fails := setFailed_eq img it l
      refine ⟨fun shed => ?_, fun plain kept => ?_, fun plain none => ⟨fun run => ?_, fun settling off other => ?_,
        fun settling on => ?_⟩⟩
      · exact congrArg done (fails.trans (if_pos shed))
      all_goals
        have fails := fails.trans (if_neg (by simp [plain]))
      · exact congrArg done (fails.trans (if_pos (Option.isSome_iff_ne_none.2 kept)))
      all_goals
        have fails := fails.trans (if_neg (by simp [none]))
      · refine congrArg done ((fails.trans (if_pos run)).trans (congrArg (fun m => offer img (released stale m)) ?_))
        exact heard_eq _ (by rw [setReturns, returned_actuator])
      all_goals
        have fails := fails.trans (if_neg settling)
      · exact congrArg done (fails.trans (if_pos ⟨off, other⟩))
      · exact congrArg done (fails.trans (if_neg (by
          rintro ⟨off, other⟩
          exact on.elim (fun level => level off) other)))
    · rw [replied, itemOutcome_set_refused _ _ _ _ _ refused, setRefused_eq]
      intro m dropped tested
      have faults : setFaults img why it l = m := by
        simp only [m, charged, noted_budget]
        rfl
      rw [faults]
      rfl

end Sys2Proof.Machine


/-! Rounds, BINDs, rollcall and probes (R142 to R147, R156). -/

namespace Sys2Proof.Machine

theorem awaitsSeries_iff (l : Live) : awaitsSeries l = true ↔
    l.part.state = .starting ∨ (l.part.state = .waking ∧ l.link.wake = .rolling) := by
  cases state : l.part.state <;> simp [awaitsSeries, state]

theorem seriesGoesOn_iff (l : Live) : seriesGoesOn l = true ↔
    l.part.state = .run ∨ l.part.state = .starting ∨ (l.part.state = .waking ∧ l.link.wake = .rolling) := by
  rw [seriesGoesOn, Bool.or_eq_true, awaitsSeries_iff, beq_iff_eq]

theorem endSeries_eq (img : Bank) (l : Live) :
    endSeries img l =
      let closed : Live := { l with link := { l.link with series := none } }
      if l.part.state = .starting ∨ (l.part.state = .waking ∧ l.link.wake = .rolling) then enterRun img closed
      else closed :=
  ite_of_iff (awaitsSeries_iff _) rfl rfl

theorem nextRound_eq (l : Live) :
    nextRound l =
      if l.part.state = .run ∨ l.part.state = .starting ∨ (l.part.state = .waking ∧ l.link.wake = .rolling) then
        placeRequest .rollcall 0 (.rollcall false) .rollcall l
      else { l with link := { l.link with series := none } } :=
  ite_of_iff (seriesGoesOn_iff l) rfl rfl

/-- The lowest free address (R143). -/
theorem freeAddress_eq {k : Link} {a : Nat} (low : 1 ≤ a) (high : a ≤ 16) (free : k.nodeAt a = none)
    (taken : ∀ b, 1 ≤ b → b < a → k.nodeAt b ≠ none) : freeAddress k = some a := by
  have ordered : ((List.range 17).drop 1).Pairwise (· < ·) := by decide
  refine find?_eq_some_of_least ordered ?_ (by simp [free]) fun b member lower => ?_
  · have : a ∈ List.range' 1 16 := List.mem_range'_1.2 ⟨low, by omega⟩
    exact this
  · have positive : 1 ≤ b := by
      have : b ∈ List.range' 1 16 := member
      exact (List.mem_range'_1.1 this).1
    simpa [Option.isSome_iff_ne_none] using taken b positive lower

/-! ### Rounds (R142, R143) -/

theorem roundRead_of {l : Live} {q : LinkRequest} (busy : l.link.onLink = some q) (sent : l.link.sent = true)
    (round : isRound q = true) (img : Bank) (serial kind : Nat) :
    roundRead img serial kind l = freeLink (roundOver img serial kind l) := by
  simp only [roundRead, busy, sent, round]
  rfl

theorem roundWon_known {l : Live} {serial : Nat} {n : Node} (known : l.link.nodeOf serial = some n) (img : Bank)
    (kind : Nat) : roundWon img serial kind l = requestBind serial kind n.address l := by
  simp only [roundWon, known]

theorem roundWon_full {l : Live} {serial : Nat} (unknown : l.link.nodeOf serial = none)
    (full : 16 ≤ l.link.directory.length) (img : Bank) (kind : Nat) :
    roundWon img serial kind l = endSeries img (latch kDirectoryFull (serial % 65536) l) := by
  simp only [roundWon, unknown, full]
  rfl

theorem roundWon_new {l : Live} {serial a : Nat} (unknown : l.link.nodeOf serial = none)
    (room : l.link.directory.length < 16) (free : freeAddress l.link = some a) (img : Bank) (kind : Nat) :
    roundWon img serial kind l = requestBind serial kind a l := by
  simp only [roundWon, unknown, free]
  exact if_neg (Nat.not_le.2 room)

/-- Settles O39. -/
theorem roundsEndQuietVoidOrWithAWinner : Obligations.RoundsEndQuietVoidOrWithAWinner := by
  intro s q serial kind free busy sent round img k state waits closed ends won asked bound done quiet goesOn
  have read : exec (.rollcallRoundEnd serial kind) s = done (roundOver img serial.toNat kind.toNat s.live) :=
    congrArg Host.Outcome.next ((s.running_free _ free).trans (by rw [roundRead_of busy sent round]))
  have quietly : serial.toNat = allOnesSerial ∧ kind.toNat = 255 ↔ quiet := by
    simp only [quiet, allOnesSerial]
    exact and_congr (by bv_omega) (by bv_omega)
  have void : serial.toNat = 0 ↔ serial = 0 := by bv_omega
  have goes : seriesGoesOn s.live = true ∨ s.live.part.state = .settling ↔ goesOn := by
    rw [seriesGoesOn_iff]
    simp only [goesOn, state, waits, k]
    exact or_assoc.trans (or_congr_right or_comm)
  have fresh (current : k.leftOver = none) : exec (.rollcallRoundEnd serial kind) s =
      done (roundEnds img serial.toNat kind.toNat s.live) := by
    have current : s.live.link.leftOver = none := current
    rw [read, roundOver, if_neg (by simp [current])]
  refine ⟨fun left => ?_, fun current nothing => ?_, fun current loud winner on => ?_, fun current loud winner off => ?_⟩
  · rw [read, roundOver, if_pos (Option.isSome_iff_ne_none.2 left)]
    rfl
  · rw [fresh current, roundEnds]
    rcases nothing with still | still
    · rw [if_pos (quietly.2 still), endSeries_eq]
    · by_cases silent : quiet
      · rw [if_pos (quietly.2 silent), endSeries_eq]
      · rw [if_neg (mt quietly.1 silent), if_pos (void.2 still), endSeries_eq]
  · have won : exec (.rollcallRoundEnd serial kind) s = done (roundWon img serial.toNat kind.toNat s.live) := by
      rw [fresh current, roundEnds, if_neg (mt quietly.1 loud), if_neg (mt void.1 winner), if_pos (goes.2 on)]
    refine ⟨fun n known => ?_, fun unknown full => ?_, fun a unknown room low high free taken => ?_⟩
    · rw [won, roundWon_known known]
      rfl
    · rw [won, roundWon_full unknown full, endSeries_eq]
      have part : (latch kDirectoryFull (serial.toNat % 65536) s.live).part = s.live.part := outer_part (outer_latch ..)
      have wake : (latch kDirectoryFull (serial.toNat % 65536) s.live).link.wake = s.live.link.wake :=
        outer_wake (outer_latch ..)
      refine congrArg done (ite_of_iff ?_ rfl rfl)
      rw [part, wake]
    · rw [won, roundWon_new unknown room (freeAddress_eq low high free taken)]
      rfl
  · rw [fresh current, roundEnds, if_neg (mt quietly.1 loud), if_neg (mt void.1 winner), if_neg (mt goes.1 off)]
    rfl

end Sys2Proof.Machine


/-! BINDs (R143, R146). -/

namespace Sys2Proof.Machine

theorem winnerKind_eq (x : Series) : winnerKind (some x) = (x.winner.map (·.2)).getD 0 := by
  obtain ⟨winner, failedBinds⟩ := x
  cases winner <;> rfl

/-- The reply to a BIND ends in what the controller makes of it: nothing is counted. -/
theorem exec_bindReply {s : State} {q : LinkRequest} {serial address : Nat} (free : s.held = false)
    (busy : s.live.link.onLink = some q) (sent : s.live.link.sent = true) (owner : q.owner = .rollcall)
    (bind : q.command = .bind serial address) (reply : LinkReply) :
    exec (.bindReply reply) s = .next { s with live := settleCheck (freeLink (bindEnds s.active serial address
      (decide (replyEnding q.command reply = .accept)) s.live)) } := by
  have mine : isBind q = true := by simp [isBind, bind]
  rw [exec_reply (reply := reply) free busy sent (by simp [mine]), transactionEnd, countTransaction_rollcall owner,
    deliverOutcome_bind _ _ owner bind]

/-- An entry changed, with the probes that wait for it removed (R143, R145). -/
def rebound (n : Node) (f : Node → Node) (l : Live) : Live :=
  removeProbe n.address { l with link := l.link.onNode n.address f }

section Accepted

variable {img : Bank} {serial address kind : Nat} {l : Live}

theorem bindAccepted_new (unknown : l.link.nodeOf serial = none) (fits : entryFits l.link serial address = true) :
    bindAccepted img serial address kind l =
      let known := knownState img serial
      let entry : Node :=
        { serial := serial, address := address, kind := kind, state := known, consecutive := 0, total := 0 }
      let made : Live := { l with link := { l.link with directory := l.link.directory ++ [entry] } }
      let noted := if made.part.state = .run then latch kNodeFound address made else made
      if known = .bound then nodeBound img serial noted else noted := by
  simp only [bindAccepted, unknown, fits]
  rfl

variable {n : Node} (known : l.link.nodeOf serial = some n)
include known

theorem bindAccepted_lost (state : n.state = .lost) :
    bindAccepted img serial address kind l =
      let known := knownState img n.serial
      let noted := latch kNodeFound n.address
        (rebound n (fun m => { m with kind := kind, state := known, consecutive := 0 }) l)
      if known = .bound then nodeBound img n.serial noted else noted := by
  simp only [bindAccepted, known, state, findNode, rebound, ← onNode_onNode (f := fun m => { m with kind := kind })
    (fun _ => rfl) n.address fun m => { m with state := knownState img n.serial, consecutive := 0 }]
  rfl

theorem bindAccepted_bound (state : n.state = .bound) :
    bindAccepted img serial address kind l = nodeBound img serial (nodeGone img serial (latch kNodeFound n.address
      (rebound n (fun m => { m with kind := kind, consecutive := 0 }) l))) := by
  simp only [bindAccepted, known, state, rebound, ← onNode_onNode (f := fun m => { m with kind := kind })
    (fun _ => rfl) n.address fun m => { m with consecutive := 0 }]
  rfl

theorem bindAccepted_spare (state : n.state = .spare) :
    bindAccepted img serial address kind l = latch kNodeFound n.address
      (rebound n (fun m => { m with kind := kind, consecutive := 0 }) l) := by
  simp only [bindAccepted, known, state, rebound, ← onNode_onNode (f := fun m => { m with kind := kind })
    (fun _ => rfl) n.address fun m => { m with consecutive := 0 }]
  rfl

theorem bindAccepted_excluded (state : n.state = .excluded) :
    bindAccepted img serial address kind l =
      { l with link := l.link.onNode n.address fun m => { m with kind := kind } } := by
  simp only [bindAccepted, known, state]
  rfl

end Accepted

theorem entryFits_iff (k : Link) (serial address : Nat) : entryFits k serial address = true ↔
    serial ≠ 0 ∧ serial ≠ 0xFFFFFFFF ∧ 1 ≤ address ∧ address ≤ 16 ∧ k.nodeAt address = none := by
  simp [entryFits, and_assoc]

theorem bindFailed_of_series {l : Live} {x : Series} (running : l.link.series = some x) (img : Bank) (serial : Nat) :
    bindFailed img serial l =
      if serial ∈ x.failedBinds then endSeries img l
      else nextRound { l with link := { l.link with
        series := some { x with failedBinds := x.failedBinds ++ [serial] } } } := by
  simp only [bindFailed, running]
  rfl

theorem serial_of_nodeOf {k : Link} {serial : Nat} {n : Node} (known : k.nodeOf serial = some n) : n.serial = serial := by
  simpa using List.find?_some known

/-- Settles O40. -/
theorem bindRepliesBindTheWinner : Obligations.BindRepliesBindTheWinner := by
  refine ⟨fun s q serial address reply x free busy sent owner bind running current => ?_,
    fun s q serial address reply x free busy sent owner bind left => ?_, entryFits_iff⟩
  · intro img k waits closed again done kind known told entry made changed
    have read := exec_bindReply free busy sent owner bind reply
    have next (l : Live) : nextRound l = again l := nextRound_eq l
    refine ⟨fun accept => ?_, fun refuse => ?_⟩
    · have bound : exec (.bindReply reply) s = done (again (bindAccepted img serial address kind s.live)) := by
        rw [read, accept, bindEnds, if_neg (by simp [current]), running, winnerKind_eq, ← next]
        rfl
      refine ⟨fun unknown fits => ?_, fun n found lost => ?_, fun n found state => ?_, fun n found state => ?_,
        fun n found state => ?_⟩
      · rw [bound, bindAccepted_new unknown fits]
        rfl
      · rw [bound, bindAccepted_lost found lost, serial_of_nodeOf found]
        rfl
      · rw [bound, bindAccepted_bound found state]
        rfl
      · rw [bound, bindAccepted_spare found state]
        rfl
      · rw [bound, bindAccepted_excluded found state]
    · have failed : exec (.bindReply reply) s = done (bindFailed img serial s.live) := by
        rw [read, bindEnds, if_neg (by simp [current]), if_neg (by simp [refuse])]
      rw [failed, bindFailed_of_series running]
      refine ⟨fun second => ?_, fun first => ?_⟩
      · rw [if_pos second, endSeries_eq]
      · rw [if_neg first, next]
  · intro bound l
    rw [exec_bindReply free busy sent owner bind reply, bindEnds, if_pos (by simp [left]), left, winnerKind_eq]
    have ended : (if decide (replyEnding q.command reply = .accept) = true
        then bindAccepted s.active serial address ((x.winner.map (·.2)).getD 0) s.live else s.live) = l :=
      ite_of_iff decide_eq_true_iff rfl rfl
    rw [ended]
    rfl

end Sys2Proof.Machine


/-! The rollcall and probe timers, and the replies to probes (R144, R145, R147, R156). -/

namespace Sys2Proof.Machine

/-! ### The timers of RUN (R144, R145) -/

theorem unseenBinding_iff (img : Bank) (l : Live) : unseenBinding img l = true ↔
    ∃ r : Role, (binding img r).serial ≠ 0 ∧ l.link.nodeOf (binding img r).serial = none := by
  simp [unseenBinding, allRoles, isBound]

theorem anyLost_iff (l : Live) : anyLost l = true ↔ ∃ n ∈ l.link.directory, n.state = .lost := by
  simp [anyLost]

theorem rollcallDue_wanted {img : Bank} {l : Live} (wanted : (unseenBinding img l || anyLost l) = true) (due : Nat) :
    rollcallDue img due l =
      startSeries { l with link := { l.link with rollcallTimer := some (due + rollcallPeriod) } } :=
  if_pos wanted

theorem rollcallDue_unwanted {img : Bank} {l : Live} (unwanted : ¬(unseenBinding img l || anyLost l) = true) (due : Nat) :
    rollcallDue img due l = { l with link := { l.link with rollcallTimer := some (due + rollcallPeriod) } } :=
  if_neg unwanted

theorem startSeries_running {l : Live} (running : l.link.series ≠ none) : startSeries l = l :=
  if_pos (Option.isSome_iff_ne_none.2 running)

theorem startSeries_begins {l : Live} (idle : l.link.series = none) :
    startSeries l = placeRequest .rollcall 0 (.rollcall l.link.resetOwed) .rollcall
      { l with link := { l.link with series := some { winner := none, failedBinds := [] }, resetOwed := false } } :=
  if_neg (by simp [idle])

/-! ### Probes (R145) -/

theorem placeRequest_busy {l : Live} (busy : l.link.onLink ≠ none) (owner : LinkOwner) (address : Nat)
    (command : LinkCommand) (cls : LinkClass) :
    placeRequest owner address command cls l = { l with link := { l.link with
      requests := l.link.requests ++
        [{ owner := owner, address := address, command := command, cls := cls, joined := l.now }] } } :=
  arbitrate_waits (.inr (.inl busy))

/-- A probe of an entry that waits in the list (R145). -/
def probeAt (now a : Nat) : LinkRequest :=
  { owner := .probe, address := a, command := .query 0, cls := .probe, joined := now }

/-- On a busy link the probes of distinct entries join the list, but for those that wait there already. -/
theorem foldl_placeProbe_busy : ∀ (addresses : List Nat), addresses.Nodup → ∀ l : Live, l.link.onLink ≠ none →
    addresses.foldl (fun l a => placeProbe a l) l = { l with link := { l.link with
      requests := l.link.requests ++
        (addresses.filter fun a => !l.link.probeWaits a).map (probeAt l.now) } }
  | [], _, l, _ => by simp
  | a :: rest, distinct, l, busy => by
    obtain ⟨apart, distinct⟩ := List.nodup_cons.1 distinct
    rw [List.foldl_cons]
    by_cases waits : l.link.probeWaits a = true
    · have placed : placeProbe a l = l := if_pos waits
      rw [placed, foldl_placeProbe_busy rest distinct l busy]
      simp [waits]
    · have placed : placeProbe a l = { l with link := { l.link with requests := l.link.requests ++ [probeAt l.now a] } } :=
        (if_neg waits).trans (placeRequest_busy busy ..)
      have others : rest.filter (fun b => !Link.probeWaits { l.link with requests := l.link.requests ++ [probeAt l.now a] } b) =
          rest.filter fun b => !l.link.probeWaits b := by
        refine List.filter_congr fun b member => ?_
        have other : a ≠ b := fun same => apart (same ▸ member)
        simp [Link.probeWaits, probeAt, other]
      rw [placed]
      refine (foldl_placeProbe_busy rest distinct
        { l with link := { l.link with requests := l.link.requests ++ [probeAt l.now a] } } busy).trans ?_
      simp [others, waits]

theorem addressesIn_nodup (k : Link) (st : NodeState) : (k.addressesIn st).Nodup :=
  List.Pairwise.filter _ List.nodup_range

theorem placeProbe_eq (a : Nat) (l : Live) :
    placeProbe a l = if l.link.probeWaits a then l
      else arbitrate { l with link := { l.link with requests := l.link.requests ++ [probeAt l.now a] } } := rfl

/-! ### What the loss of a node does to the waiting requests in WAKING (R156) -/

section Waking

variable {img : Bank}

theorem offer_idle {l : Live} (waking : l.part.state = .waking) : offer img l = l :=
  if_neg (by simp [waking])

theorem offerAfter_waking {l : Live} (waking : l.part.state = .waking) (released : Bool) :
    (offerAfter img released l).link.requests = l.link.requests := by
  unfold offerAfter roomNotice
  split
  · rw [offer_idle (by exact waking)]
    rfl
  · rw [offer_idle waking]

@[simp] theorem latch_link (k : Kind) (n : Nat) (l : Live) : (latch k n l).link = l.link := by
  unfold latch askStatusE
  dsimp only
  repeat' split
  all_goals rfl

@[simp] theorem setCapped_link (z : Fin 4) (l : Live) : (setCapped z l).link = l.link := by
  unfold setCapped
  split
  · rfl
  · exact latch_link ..

theorem joinTail_link (e : QueueEntry) (l : Live) : (joinTail e l).link = l.link := by
  rw [joinTail, placeTail_eq]

theorem shedOrder_waking {l : Live} (waking : l.part.state = .waking) (r : Role) (level : Nat) :
    (shedOrder img r level l).link = l.link := by
  have offered : ∀ m : Live, m.outer = l.outer → m.link = l.link → (offer img m).link = l.link := by
    intro m outer link
    rw [offer_idle (by rw [outer_part outer, waking]), link]
  unfold shedOrder
  split
  · rfl
  · split
    · exact offered _ (outer_joinTail ..) (joinTail_link ..)
    · split
      · exact offered _ (outer_joinTail ..) (joinTail_link ..)
      · rfl

theorem orderShed_waking {l : Live} (waking : l.part.state = .waking) (r : Role) (level : Nat) :
    (orderShed img r level l).link = l.link := by
  unfold orderShed
  dsimp only
  split
  · rw [shedOrder_waking (by rw [outer_part (outer_setCapped ..)]; exact waking), setCapped_link]
  · rw [shedOrder_waking (by exact waking)]

theorem shedFrom_waking : ∀ (roles : List Role) (excess : Int) (l : Live), l.part.state = .waking →
    (shedFrom img roles excess l).1.link = l.link
  | [], _, _, _ => rfl
  | r :: rest, excess, l, waking => by
    rw [shedFrom]
    split
    · rfl
    · split
      · exact shedFrom_waking rest excess l waking
      · split
        · exact shedFrom_waking rest excess l waking
        · exact (shedFrom_waking rest _ _ (by rw [outer_part (outer_orderShed ..)]; exact waking)).trans
            (orderShed_waking waking ..)

theorem testShed_waking {l : Live} (waking : l.part.state = .waking) : (testShed img l).link = l.link := by
  have shed (excess : Int) := shedFrom_waking (img := img) shedSequence excess l waking
  unfold testShed
  dsimp only
  split
  · rfl
  · split
    · rw [latch_link, shed]
    · exact shed _

theorem reportAll_link (f : Role → Consumer → Consumer) : ∀ (roles : List Role) (l : Live),
    (reportAll f roles l).1.link = l.link
  | [], _ => rfl
  | _ :: rest, _ => reportAll_link f rest _

theorem dropAllShed_link (roles : List Role) (l : Live) : (dropAllShed roles l).link = l.link := by
  induction roles generalizing l with
  | nil => rfl
  | cons r rest ih => exact ih _

theorem tellStates_waking {l : Live} (waking : l.part.state = .waking) (f : Role → Consumer → Consumer)
    (roles : List Role) : (tellStates img f roles l).1.link = l.link := by
  have told : (reportAll f roles (dropAllShed roles l)).1.link = l.link :=
    (reportAll_link ..).trans (dropAllShed_link ..)
  unfold tellStates
  dsimp only
  split
  · rw [testShed_waking (by rw [outer_part (outer_reportAll ..), outer_part (outer_dropAllShed ..), waking]), told]
  · exact told

/-- The roles of a lost node keep no waiting request, and in WAKING nothing is offered: no request is made (R120, R131). -/
theorem nodeGone_waking {l : Live} (waking : l.part.state = .waking) (serial : Nat) :
    (nodeGone img serial l).link.requests ⊆ l.link.requests := by
  have leave : ∀ (roles : List Role) (m : Live),
      (roles.foldl (fun l r => onActuator r
        (fun a => { a with state := if a.state = .faulted then .faulted else .offline }) (abandon r l)) m).link.requests ⊆
          m.link.requests ∧
      (roles.foldl (fun l r => onActuator r
        (fun a => { a with state := if a.state = .faulted then .faulted else .offline }) (abandon r l)) m).part = m.part := by
    intro roles
    induction roles with
    | nil => exact fun m => ⟨List.Subset.refl _, rfl⟩
    | cons r rest ih =>
      intro m
      obtain ⟨requests, part⟩ := ih (onActuator r
        (fun a => { a with state := if a.state = .faulted then .faulted else .offline }) (abandon r m))
      have kept : (abandon r m).link.requests = m.link.requests.filter fun q => !q.owner.isItemOf r := by
        rw [abandon, leaveWork_eq]
        rfl
      have fewer : (abandon r m).link.requests ⊆ m.link.requests := kept ▸ List.filter_sublist.subset
      exact ⟨List.Subset.trans requests fewer, part.trans (outer_part (outer_abandon ..))⟩
  obtain ⟨requests, part⟩ := leave (rolesOf img serial) l
  unfold nodeGone rolesGone
  dsimp only
  rw [offerAfter_waking (by rw [outer_part (outer_tellStates ..), part, waking]),
    tellStates_waking (by rw [part, waking])]
  exact requests

theorem cancelAccess_requests (result : Nat) (l : Live) : (cancelAccess result l).link.requests ⊆ l.link.requests := by
  have finished : (finishAccess result (withdraw (fun q => q.owner == .window) l)).link.requests =
      (withdraw (fun q => q.owner == .window) l).link.requests := by
    unfold finishAccess
    split <;> rfl
  unfold cancelAccess
  split
  · rw [finished]
    exact List.filter_sublist.subset
  · exact List.Subset.refl _

theorem loseNode_waking {l : Live} (waking : l.part.state = .waking) (n : Node) :
    (loseNode img n l).link.requests ⊆ l.link.requests := by
  have latched : (latch kNodeLost n.address (l.onLinkBlock (Link.onNode n.address fun m =>
      { m with state := .lost }))).link.requests = l.link.requests := by rw [latch_link]; rfl
  have part : (latch kNodeLost n.address (l.onLinkBlock (Link.onNode n.address fun m =>
      { m with state := .lost }))).part.state = .waking := by rw [outer_part (outer_latch ..)]; exact waking
  unfold loseNode
  dsimp only
  generalize latch kNodeLost n.address (l.onLinkBlock (Link.onNode n.address fun m => { m with state := .lost })) = lost
    at latched part
  have told : (if n.state = .bound then nodeGone img n.serial lost else lost).link.requests ⊆ l.link.requests := by
    rw [← latched]
    split
    · exact nodeGone_waking part n.serial
    · exact List.Subset.refl _
  generalize (if n.state = .bound then nodeGone img n.serial lost else lost) = m at told
  split
  · exact List.Subset.trans (cancelAccess_requests ..) told
  · exact told

/-- The count of a failure in WAKING makes no request. -/
theorem countOutcome_waking {l : Live} (waking : l.part.state = .waking) (address : Nat) (success : Bool) :
    (countOutcome img address success l).link.requests ⊆ l.link.requests := by
  unfold countOutcome
  split
  · exact List.Subset.refl _
  · split
    · split
      · exact List.Subset.refl _
      · dsimp only
        split
        · exact loseNode_waking (by exact waking) _
        · exact List.Subset.refl _
    · exact List.Subset.refl _

theorem cancelAccess_part (result : Nat) (l : Live) :
    (cancelAccess result l).part = l.part ∧ (cancelAccess result l).link.wake = l.link.wake := by
  unfold cancelAccess finishAccess
  split
  · split <;> exact ⟨rfl, rfl⟩
  · exact ⟨rfl, rfl⟩

theorem loseNode_part (n : Node) (l : Live) :
    (loseNode img n l).part = l.part ∧ (loseNode img n l).link.wake = l.link.wake := by
  have told : ∀ m : Live, m.part = l.part ∧ m.link.wake = l.link.wake →
      (if n.state = .bound then nodeGone img n.serial m else m).part = l.part ∧
        (if n.state = .bound then nodeGone img n.serial m else m).link.wake = l.link.wake := by
    rintro m ⟨part, wake⟩
    split
    · exact ⟨(outer_part (outer_nodeGone ..)).trans part, (outer_wake (outer_nodeGone ..)).trans wake⟩
    · exact ⟨part, wake⟩
  have lost := told (latch kNodeLost n.address (l.onLinkBlock (Link.onNode n.address fun m => { m with state := .lost })))
    ⟨(outer_part (outer_latch ..)).trans rfl, (outer_wake (outer_latch ..)).trans rfl⟩
  unfold loseNode
  dsimp only
  generalize (if n.state = .bound then nodeGone img n.serial _ else _) = m at lost
  split
  · exact ⟨(cancelAccess_part ..).1.trans lost.1, (cancelAccess_part ..).2.trans lost.2⟩
  · exact lost

theorem countOutcome_part (address : Nat) (success : Bool) (l : Live) :
    (countOutcome img address success l).part = l.part ∧
      (countOutcome img address success l).link.wake = l.link.wake := by
  unfold countOutcome
  split
  · exact ⟨rfl, rfl⟩
  · split
    · split
      · exact ⟨rfl, rfl⟩
      · dsimp only
        split
        · exact loseNode_part ..
        · exact ⟨rfl, rfl⟩
    · exact ⟨rfl, rfl⟩

theorem probeOutstanding_eq_false {k : Link} : probeOutstanding k = false ↔
    (∀ q ∈ k.requests, q.owner ≠ .probe) ∧ ∀ q, k.onLink = some q → q.owner ≠ .probe := by
  cases onLink : k.onLink <;> simp [probeOutstanding, onLink]

theorem startSeries_runs (l : Live) :
    (startSeries l).part = l.part ∧ (startSeries l).link.wake = l.link.wake ∧ (startSeries l).link.series ≠ none := by
  by_cases running : l.link.series = none
  · rw [startSeries_begins running, outer_part (outer_placeRequest ..), outer_wake (outer_placeRequest ..),
      outer_series (outer_placeRequest ..)]
    exact ⟨rfl, rfl, by simp⟩
  · rw [startSeries_running running]
    exact ⟨rfl, rfl, running⟩

/-- After the last probe of WAKING the series runs (R156). -/
theorem freeLink_lastProbe {l : Live} (waking : l.part.state = .waking) (probing : l.link.wake = .probing)
    (last : ∀ q ∈ l.link.requests, q.owner ≠ .probe) :
    (freeLink l).part.state = .waking ∧ (freeLink l).link.wake = .rolling ∧ (freeLink l).link.series ≠ none := by
  let free : Live := { l with link := { l.link with onLink := none, sent := false, replyWindow := none } }
  have part : (arbitrate free).part.state = .waking := by rw [outer_part (outer_arbitrate free)]; exact waking
  have wake : (arbitrate free).link.wake = .probing := (outer_wake (outer_arbitrate free)).trans probing
  have quiet : probeOutstanding (arbitrate free).link = false := by
    rw [probeOutstanding_eq_false, arbitrate]
    split
    · split
      · exact ⟨last, by simp [free]⟩
      next r chosen =>
        refine ⟨fun q member => last q (List.mem_of_mem_erase member), ?_⟩
        rintro q ⟨⟩
        exact last r (mem_of_chooseRequest chosen)
    · exact ⟨last, by simp [free]⟩
  have rolls : freeLink l = startSeries ((arbitrate free).onLinkBlock fun k => { k with wake := .rolling }) :=
    if_pos ⟨part, wake, quiet⟩
  obtain ⟨kept, rolling, series⟩ := startSeries_runs ((arbitrate free).onLinkBlock fun k => { k with wake := .rolling })
  rw [rolls]
  exact ⟨(congrArg Part.state kept).trans part, rolling, series⟩

end Waking

/-! ### Replies to probes (R145, R147) -/

theorem exec_probeReply {s : State} {q : LinkRequest} (free : s.held = false) (busy : s.live.link.onLink = some q)
    (sent : s.live.link.sent = true) (owner : q.owner = .probe) (reply : LinkReply) :
    exec (.probeReply reply) s = .next { s with live := settleCheck (freeLink (probeEnds s.active q.address
      (replyEnding q.command reply != .failure)
      (countOutcome s.active q.address (decide (replyEnding q.command reply ≠ .failure)) s.live))) } := by
  have mine : isProbe q = true := by simp [isProbe, owner]
  rw [exec_reply (reply := reply) free busy sent (by simp [mine]), transactionEnd,
    countTransaction_node (by simp [owner]), deliverOutcome_probe _ _ owner]

/-- The count of a BOUND or SPARE entry and of its probe's end: what the probe does, but for the count, is nothing. -/
theorem probeEnds_known {img : Bank} {l : Live} {n : Node} {address : Nat} (found : l.link.nodeAt address = some n)
    (state : n.state = .bound ∨ n.state = .spare) (success : Bool) :
    probeEnds img address success (countOutcome img address success l) = countOutcome img address success l := by
  refine probeEnds_unmoved ?_
  cases success
  · exact .inl rfl
  · refine .inr fun m now => ?_
    rw [countOutcome_success found state] at now
    have kept := nodeAt_onNode_self (f := fun m => { m with consecutive := 0 }) (fun _ => rfl) found
    obtain rfl := Option.some.inj (kept.symm.trans now)
    rcases state with state | state <;> simp [state]

/-- Settles O41. -/
theorem rollcallAndProbesLookForNodes : Obligations.RollcallAndProbesLookForNodes := by
  refine ⟨fun s e free => ?timers, fun l busy => ?busy, fun l a => ⟨rfl, fun waits up idle empty => ?idle⟩,
    fun s q reply n free busy sent owner found => ?replies⟩
  case timers =>
    intro img k wanted later
    have wants : (unseenBinding img { s.live with now := later } || anyLost { s.live with now := later }) = true ↔ wanted := by
      rw [Bool.or_eq_true, unseenBinding_iff, anyLost_iff]
    refine ⟨fun due => ?_, fun due => ?_⟩
    · intro rolled begun
      have expires : exec .rollcallTimerExpiry s =
          .next { s with live := rollcallDue img e { s.live with now := later } } := by
        refine congrArg Host.Outcome.next ((s.running_free _ free).trans ?_)
        have due : s.live.link.rollcallTimer = some e := due
        simp only [rollcallTimerExpires, due]
        rfl
      rw [expires]
      refine ⟨fun idle wanted => ?_, fun either => ?_⟩
      · rw [rollcallDue_wanted (wants.2 wanted), startSeries_begins (by exact idle)]
        rfl
      · by_cases needed : wanted
        · have running : k.series ≠ none := either.resolve_right (not_not_intro needed)
          rw [rollcallDue_wanted (wants.2 needed), startSeries_running (by exact running)]
          rfl
        · rw [rollcallDue_unwanted (mt wants.1 needed)]
          rfl
    · refine congrArg Host.Outcome.next ((s.running_free _ free).trans ?_)
      have due : s.live.link.probeTimer = some e := due
      simp only [probeTimerExpires, due]
      rfl
  case busy => exact foldl_placeProbe_busy _ (addressesIn_nodup ..) l busy
  case idle =>
    have quiet : ¬l.link.probeWaits a = true := by simpa [Link.probeWaits] using waits
    rw [placeProbe_eq, if_neg quiet, empty, List.nil_append]
    refine (arbitrate_takes (l := { l with link := { l.link with requests := [probeAt l.now a] } })
      (r := probeAt l.now a) up idle rfl).trans ?_
    simp [probeAt]
  case replies =>
    intro img ending known found' latched done
    have read : exec (.probeReply reply) s = done (probeEnds img q.address (ending != .failure)
      (countOutcome img q.address (decide (ending ≠ .failure)) s.live)) := exec_probeReply free busy sent owner reply
    have answered (success : ending ≠ .failure) : exec (.probeReply reply) s =
        done (probeEnds img q.address true (countOutcome img q.address true s.live)) := by
      rw [read, decide_eq_true success, show (ending != .failure) = true by simpa using success]
    have unanswered (failure : ending = .failure) : exec (.probeReply reply) s =
        done (probeEnds img q.address false (countOutcome img q.address false s.live)) := by
      rw [read, failure]
      rfl
    have silent := countOutcome_uncounted (img := img) found
    refine ⟨fun lost success => ?_, fun lost failure => ?_, fun out => ?_, fun state success => ?_,
      fun state failure => ?_, fun bound waking probing last => ?_⟩
    · rw [answered success, silent (.inl lost), probeEnds_found found lost]
      rfl
    · rw [unanswered failure, silent (.inl lost), probeEnds_unmoved (.inl rfl)]
    · rw [read, silent (.inr out), probeEnds_unmoved (.inr fun m again => ?_)]
      obtain rfl := Option.some.inj (found.symm.trans again)
      simp [out]
    · rw [answered success, probeEnds_known found state, countOutcome_success found state]
    · rw [unanswered failure, probeEnds_known found state]
    · have kept : ∃ success, exec (.probeReply reply) s = done (countOutcome img q.address success s.live) := by
        by_cases failure : ending = .failure
        · exact ⟨false, by rw [unanswered failure, probeEnds_known found (.inl bound)]⟩
        · exact ⟨true, by rw [answered failure, probeEnds_known found (.inl bound)]⟩
      obtain ⟨success, kept⟩ := kept
      obtain ⟨part, wake⟩ := countOutcome_part (img := img) q.address success s.live
      obtain ⟨awake, rolling, series⟩ := freeLink_lastProbe ((congrArg Part.state part).trans waking) (wake.trans probing)
        fun x member => last x (countOutcome_waking waking q.address success member)
      have settled : settleCheck (freeLink (countOutcome img q.address success s.live)) =
          freeLink (countOutcome img q.address success s.live) := if_neg (by simp [awake])
      exact ⟨_, kept, by rw [settled]; exact rolling, by rw [settled]; exact series⟩

end Sys2Proof.Machine


/-! The node access window and its accesses (R155, R170). -/

namespace Sys2Proof.Machine

/-! ### Which requests the sequencer places (R121) -/

/-- Every waiting request stands in a list or is one of an item, and then not a round. -/
structure ItemsBeside (rs : List LinkRequest) (l : Live) : Prop where
  waiting : ∀ q ∈ l.link.requests, q ∈ rs ∨ isRound q = false ∧ ∃ role id, q.owner = .item role id

namespace ItemsBeside

variable {rs : List LinkRequest} {l : Live}

theorem of_link {m : Live} (h : ItemsBeside rs l) (same : m.link = l.link) : ItemsBeside rs m :=
  ⟨same ▸ h.waiting⟩

theorem withdraw (h : ItemsBeside rs l) (test : LinkRequest → Bool) : ItemsBeside rs (Machine.withdraw test l) :=
  ⟨fun q member => h.waiting q ((List.mem_filter.mp member).1)⟩

theorem leaveWork (h : ItemsBeside rs l) (r : Role) : ItemsBeside rs (Machine.leaveWork r l) :=
  h.of_link (by rw [leaveWork_eq])

theorem placeRequest (h : ItemsBeside rs l) (r : Role) (id address : Nat) {command : LinkCommand}
    (other : ∀ reset, command ≠ .rollcall reset) (cls : LinkClass) :
    ItemsBeside rs (Machine.placeRequest (.item r id) address command cls l) := by
  have joined : ∀ q ∈ l.link.requests ++ [{ owner := .item r id, address, command, cls, joined := l.now }],
      q ∈ rs ∨ isRound q = false ∧ ∃ role id, q.owner = .item role id := by
    refine fun q member => (List.mem_append.1 member).elim (h.waiting q) fun last => .inr ?_
    rw [List.mem_singleton.1 last]
    refine ⟨?_, r, id, rfl⟩
    cases command with
    | rollcall reset => exact absurd rfl (other reset)
    | _ => rfl
  unfold Machine.placeRequest arbitrate
  split
  · split
    · exact ⟨joined⟩
    · exact ⟨fun q member => joined q (List.mem_of_mem_erase member)⟩
  · exact ⟨joined⟩

theorem startItem (h : ItemsBeside rs l) (img : Bank) (r : Role) (kind : WorkKind) (level asked : Nat)
    (urgent shed : Bool) (address : Nat) :
    ItemsBeside rs (Machine.startItem img r kind level asked urgent shed address l) :=
  placeRequest (by exact ⟨(h.leaveWork r).waiting⟩) _ _ _ (fun _ => by cases kind <;> exact LinkCommand.noConfusion) _

theorem haltItem (h : ItemsBeside rs l) (img : Bank) (why : HaltReason) (it : Item) :
    ItemsBeside rs (Machine.haltItem img why it l) :=
  placeRequest (by exact ⟨(ItemsBeside.withdraw h _).waiting⟩) _ _ _ (fun _ => by exact nofun) _

theorem putEntry (h : ItemsBeside rs l) (img : Bank) (e : QueueEntry) : ItemsBeside rs (Machine.putEntry img e l).1 := by
  unfold Machine.putEntry
  split
  · exact h
  · split
    · exact h.of_link (by rw [returnUnsent, placeHead_eq]; rfl)
    · split
      · dsimp only
        split
        · split <;> exact startItem (by exact ⟨h.waiting⟩) ..
        · exact startItem (by exact h.of_link (setCapped_link ..)) ..
        · exact h.of_link (by rw [setCapped_link])
        · exact ⟨h.waiting⟩
      · dsimp only
        split
        · exact startItem (by exact ⟨h.waiting⟩) ..
        · exact ⟨h.waiting⟩

theorem putEntries (img : Bank) (skip : QueueEntry → Bool) : ∀ (es : List QueueEntry) {l : Live}, ItemsBeside rs l →
    ItemsBeside rs (Machine.putEntries img skip es l).1
  | [], _, h => h
  | e :: rest, _, h => by
    unfold Machine.putEntries
    split
    · exact putEntries img skip rest h
    · exact putEntries img skip rest (h.putEntry img e)

theorem trySuspend (h : ItemsBeside rs l) (img : Bank) : ItemsBeside rs (Machine.trySuspend img l) := by
  unfold Machine.trySuspend
  split
  · dsimp only
    split
    · exact ⟨h.waiting⟩
    · split
      · exact ⟨h.waiting⟩
      · exact haltItem (by exact ⟨h.waiting⟩) ..
  · exact h

theorem offerResume (h : ItemsBeside rs l) (img : Bank) : ItemsBeside rs (Machine.offerResume img l).1 := by
  unfold Machine.offerResume
  split
  · exact h
  · split
    · exact h
    · dsimp only
      split
      · exact startItem (by exact ⟨h.waiting⟩) ..
      · exact ⟨h.waiting⟩

theorem offer (h : ItemsBeside rs l) (img : Bank) : ItemsBeside rs (Machine.offer img l) := by
  unfold Machine.offer offerNow
  dsimp only
  split
  · split
    · exact (putEntries img _ _ h).trySuspend img
    · refine putEntries img _ _ ?_
      split
      · exact (putEntries img _ _ h).offerResume img
      · exact putEntries img _ _ h
  · exact h

theorem offerAfter (h : ItemsBeside rs l) (img : Bank) (released : Bool) :
    ItemsBeside rs (Machine.offerAfter img released l) := by
  unfold Machine.offerAfter roomNotice
  split
  · exact offer (by exact ⟨h.waiting⟩) img
  · exact h.offer img

theorem orderShed (h : ItemsBeside rs l) (img : Bank) (r : Role) (level : Nat) :
    ItemsBeside rs (Machine.orderShed img r level l) := by
  have ordered : ∀ m : Live, ItemsBeside rs m → ItemsBeside rs (shedOrder img r level m) := by
    intro m beside
    unfold shedOrder
    split
    · exact ⟨beside.waiting⟩
    · split
      · exact offer (by exact beside.of_link (joinTail_link ..)) img
      · split
        · exact offer (by exact beside.of_link (joinTail_link ..)) img
        · exact beside
  unfold Machine.orderShed
  dsimp only
  split
  · exact ordered _ (h.of_link (setCapped_link ..))
  · exact ordered _ ⟨h.waiting⟩

theorem shedFrom (img : Bank) : ∀ (roles : List Role) (excess : Int) {l : Live}, ItemsBeside rs l →
    ItemsBeside rs (Machine.shedFrom img roles excess l).1
  | [], _, _, h => h
  | r :: rest, excess, _, h => by
    rw [Machine.shedFrom]
    split
    · exact h
    · split
      · exact shedFrom img rest excess h
      · split
        · exact shedFrom img rest excess h
        · exact shedFrom img rest _ (h.orderShed img r _)

theorem testShed (h : ItemsBeside rs l) (img : Bank) : ItemsBeside rs (Machine.testShed img l) := by
  unfold Machine.testShed
  dsimp only
  split
  · exact h
  · split
    · exact (shedFrom img _ _ h).of_link (latch_link ..)
    · exact shedFrom img _ _ h

theorem nodeGone (h : ItemsBeside rs l) (img : Bank) (serial : Nat) : ItemsBeside rs (Machine.nodeGone img serial l) := by
  have left : ∀ (roles : List Role) (m : Live), ItemsBeside rs m → ItemsBeside rs (roles.foldl (fun l r =>
      onActuator r (fun a => { a with state := if a.state = .faulted then .faulted else .offline }) (abandon r l)) m) := by
    intro roles
    induction roles with
    | nil => exact fun m beside => beside
    | cons r rest ih => exact fun m beside => ih _ ⟨((beside.withdraw _).leaveWork r).waiting⟩
  unfold Machine.nodeGone rolesGone tellStates
  dsimp only
  refine ItemsBeside.offerAfter ?_ img _
  have told := (left (rolesOf img serial) l h).of_link ((reportAll_link (unreachable img) (rolesOf img serial) _).trans
    (dropAllShed_link (rolesOf img serial) _))
  split
  · exact told.testShed img
  · exact told

end ItemsBeside

theorem cancelAccess_window (result : Nat) (l : Live) : (cancelAccess result l).link.window = l.link.window := by
  unfold cancelAccess finishAccess
  split
  · split <;> rfl
  · rfl

theorem loseNode_window (img : Bank) (n : Node) (l : Live) : (loseNode img n l).link.window = l.link.window := by
  have latched : (latch kNodeLost n.address (l.onLinkBlock (Link.onNode n.address fun m =>
      { m with state := .lost }))).link.window = l.link.window := (outer_window (outer_latch ..)).trans rfl
  unfold loseNode
  dsimp only
  generalize latch kNodeLost n.address _ = lost at latched
  have told : (if n.state = .bound then nodeGone img n.serial lost else lost).link.window = l.link.window := by
    split
    · exact (outer_window (outer_nodeGone ..)).trans latched
    · exact latched
  generalize (if n.state = .bound then nodeGone img n.serial lost else lost) = m at told
  split
  · exact (cancelAccess_window ..).trans told
  · exact told

/-- Where no window access waits, the loss of a node ends none: the management unit stays busy or free (R147, R155). -/
theorem loseNode_management {img : Bank} {l : Live} (n : Node) (none : ∀ x ∈ l.link.requests, x.owner ≠ .window) :
    (loseNode img n l).management = l.management := by
  have latched : ItemsBeside l.link.requests (latch kNodeLost n.address (l.onLinkBlock (Link.onNode n.address fun m =>
      { m with state := .lost }))) := ⟨fun q member => .inl (by rw [latch_link] at member; exact member)⟩
  have kept : (latch kNodeLost n.address (l.onLinkBlock (Link.onNode n.address fun m =>
      { m with state := .lost }))).management = l.management := (outer_management (outer_latch ..)).trans rfl
  unfold loseNode
  dsimp only
  generalize latch kNodeLost n.address _ = lost at latched kept
  have told : ItemsBeside l.link.requests (if n.state = .bound then nodeGone img n.serial lost else lost) ∧
      (if n.state = .bound then nodeGone img n.serial lost else lost).management = l.management := by
    split
    · exact ⟨latched.nodeGone img n.serial, (outer_management (outer_nodeGone ..)).trans kept⟩
    · exact ⟨latched, kept⟩
  generalize (if n.state = .bound then nodeGone img n.serial lost else lost) = m at told
  refine (congrArg Live.management (if_neg fun waits => ?_)).trans told.2
  obtain ⟨x, member, window⟩ := List.any_eq_true.1 waits
  have owner : x.owner = .window := by simpa using (Bool.and_eq_true_iff.1 window).1
  rcases told.1.waiting x member with old | ⟨-, role, id, item⟩
  · exact none x old owner
  · exact LinkOwner.noConfusion (owner.symm.trans item)

/-- What holds after every loss of a node holds after every count of a transaction. -/
theorem countTransaction_keeps {α : Type} (f : Live → α) (ofNode : ∀ address g (l : Live),
    f (l.onLinkBlock (Link.onNode address g)) = f l) {img : Bank} {l : Live}
    (ofLoss : ∀ n (m : Live), m.link.requests = l.link.requests → f (loseNode img n m) = f m) (q : LinkRequest)
    (e : Ending) : f (countTransaction img q e l) = f l := by
  unfold countTransaction countOutcome
  split
  · rfl
  · split
    · rfl
    · split
      · split
        · exact ofNode ..
        · dsimp only
          split
          · exact (ofLoss _ (l.onLinkBlock (Link.onNode q.address Node.failed)) rfl).trans (ofNode ..)
          · exact ofNode ..
      · rfl

theorem countTransaction_window (img : Bank) (q : LinkRequest) (e : Ending) (l : Live) :
    (countTransaction img q e l).link.window = l.link.window :=
  countTransaction_keeps (fun l => l.link.window) (fun _ _ _ => rfl) (fun n m _ => loseNode_window img n m) q e

theorem countTransaction_management {img : Bank} {l : Live} (none : ∀ x ∈ l.link.requests, x.owner ≠ .window)
    (q : LinkRequest) (e : Ending) : (countTransaction img q e l).management = l.management :=
  countTransaction_keeps Live.management (fun _ _ _ => rfl)
    (fun n _ same => loseNode_management n (same ▸ none)) q e

/-! ### The window's bytes (R170) -/

theorem getD_of_inside {α : Type} {xs : List α} {i : Nat} (inside : i < xs.length) (d : α) : xs.getD i d = xs[i] := by
  rw [List.getD_eq_getElem?_getD, List.getElem?_eq_getElem inside, Option.getD_some]

theorem windowRead_eq (w : Vector Byte 16) (offset count : Nat) :
    windowRead w offset count = (List.range count).map fun k => w.toList.getD ((offset + k) % 16) 0 := by
  induction count generalizing offset with
  | zero => rfl
  | succ n ih =>
    have first : w[offset % 16]'(Nat.mod_lt _ (by decide)) = w.toList.getD (offset % 16) 0 := by
      have inside : offset % 16 < w.toList.length := by simp [Nat.mod_lt]
      rw [getD_of_inside inside, Vector.getElem_toList]
    rw [windowRead, ih, first, List.range_succ_eq_map, List.map_cons, List.map_map]
    congr 1
    refine List.map_congr_left fun k _ => ?_
    rw [Function.comp_apply, Nat.add_right_comm, Nat.add_assoc]

theorem windowRead_start (w : Vector Byte 16) {count : Nat} (few : count ≤ 16) :
    windowRead w 0 count = w.toList.take count := by
  have length : w.toList.length = 16 := by simp
  rw [windowRead_eq]
  refine List.ext_getElem (by simp [few]) fun k short _ => ?_
  have inside : k < 16 := by simp at short; omega
  rw [List.getElem_map, List.getElem_range, List.getElem_take, Nat.zero_add, Nat.mod_eq_of_lt inside,
    getD_of_inside (by omega)]

/-- Bytes written from an offset: the byte at its distance from the offset, and every other byte as before. -/
theorem windowWrite_get (data : List Byte) (offset : Nat) (w : Vector Byte 16) (few : data.length ≤ 16) (k : Fin 16) :
    (windowWrite data offset w).get k = if (k.val + 16 - offset % 16) % 16 < data.length
      then byteAt data ((k.val + 16 - offset % 16) % 16) else w.get k := by
  induction data generalizing offset w with
  | nil => rfl
  | cons v rest ih =>
    rw [List.length_cons] at few ⊢
    have place : (w.set (offset % 16) v (Nat.mod_lt _ (by decide))).get k =
        if offset % 16 = k.val then v else w.get k :=
      Vector.getElem_set ..
    rw [windowWrite, ih _ _ (by omega), place]
    by_cases here : offset % 16 = k.val
    · have zero : (k.val + 16 - offset % 16) % 16 = 0 := by omega
      have last : (k.val + 16 - (offset + 1) % 16) % 16 = 15 := by omega
      rw [if_neg (by omega), if_pos here, if_pos (by omega), zero]
      rfl
    · have next : (k.val + 16 - offset % 16) % 16 = (k.val + 16 - (offset + 1) % 16) % 16 + 1 := by omega
      rw [next, byteAt_cons_succ, if_neg here]
      simp only [Nat.add_lt_add_iff_right]

/-! ### Accesses (R155) -/

theorem accessRefused_eq (k : Link) (address register : Nat) : accessRefused k address register =
    if k.state = .failed then some 11 else match k.nodeAt address with
      | none => some 12
      | some n =>
        if n.state = .lost ∨ n.state = .excluded then some 12
        else if 255 < register ∧ n.kind ≤ 127 then some 13
        else none := by
  unfold accessRefused
  cases k.nodeAt address with
  | none => rfl
  | some n => simp only [Nat.lt_succ_iff, rLinkDown, rNoReply, rNodeRefused]

theorem outside_iff (address count : Nat) : (!isAddress address ∨ count = 0 ∨ 16 < count) ↔
    ¬(1 ≤ address ∧ address ≤ 16 ∧ 1 ≤ count ∧ count ≤ 16) := by
  by_cases inside : 1 ≤ address ∧ address ≤ 16
  · simp only [isAddress_of_range inside.1 inside.2, Bool.not_true, Bool.false_eq_true, false_or]
    omega
  · simp only [isAddress_out (show address = 0 ∨ 16 < address by omega), Bool.not_false, true_or, true_iff]
    omega

/-- A node access answers RANGE, or ends at once, or its request is placed. -/
theorem nodeReadBody_eq (address register count : Nat) (s : State) : nodeReadBody address register count s =
    if ¬(1 ≤ address ∧ address ≤ 16 ∧ 1 ≤ count ∧ count ≤ 16) then answer 0x38 4 [] s
    else match accessRefused s.live.link address register with
      | some code => answer 0x38 code [] s
      | none => s.onLive (beginAccess .nodeRead address (.read (wideRegister s.live.link address) register count)) :=
  ite_of_iff (outside_iff address count) rfl rfl

theorem nodeWriteBody_eq (address register count : Nat) (s : State) : nodeWriteBody address register count s =
    if ¬(1 ≤ address ∧ address ≤ 16 ∧ 1 ≤ count ∧ count ≤ 16) then answer 0x39 4 [] s
    else match accessRefused s.live.link address register with
      | some code => answer 0x39 code [] s
      | none => s.onLive (beginAccess .nodeWrite address
          (.write (wideRegister s.live.link address) register (windowRead s.live.link.window 0 count))) :=
  ite_of_iff (outside_iff address count) rfl rfl

/-- The code that an access ends with, and the window after it. -/
theorem windowEnds_eq (e : Ending) (l : Live) : windowEnds e l =
    finishAccess (match e with | .accept => 0 | .data _ => 0 | .failure => 12 | _ => 13)
      { l with link := { l.link with window := match e with
        | .data bytes => Vector.ofFn fun k => bytes.getD k.val (l.link.window.get k)
        | _ => l.link.window } } := by
  cases e <;> rfl

/-- Settles O42. -/
theorem windowRequestsBeginAndEndTheirAccess : Obligations.WindowRequestsBeginAndEndTheirAccess := by
  refine ⟨fun s takes => ⟨fun offset count data => ⟨fun out => ?_, fun low some few enough => ?put⟩, fun offset => ?get,
    fun address register count => ?access⟩, fun s q reply free busy sent owner none => ?ends⟩
  · exact congrArg _ (request_result takes 0x3A (body := windowPutBody offset count data) (if_pos out) rfl rfl)
  case put =>
    have length : (data.take count).length = count := by simp [enough]
    refine ⟨windowWrite (data.take count) offset s.live.link.window, congrArg _ (request_result takes 0x3A
      (body := windowPutBody offset count data) (if_neg (by omega)) rfl rfl), fun k => ?_⟩
    intro j
    rw [windowWrite_get _ _ _ (by omega), length, Nat.mod_eq_of_lt (by omega : offset < 16)]
    refine ite_congr rfl (fun inside => ?_) fun _ => rfl
    rw [byteAt, byteAt, List.getD_eq_getElem?_getD, List.getElem?_take_of_lt inside, List.getD_eq_getElem?_getD]
  case get =>
    intro bytes
    have read : windowGetBody offset s = if 15 < offset then answer 0x3B 4 [] s else answer 0x3B 0 bytes s := by
      rw [windowGetBody, windowRead_eq]
      rfl
    refine congrArg _ (request_result takes 0x3B read ?_ ?_) <;> split <;> rfl
  case access =>
    intro k node inRange refused wide data busy
    have refusal : accessRefused s.live.link address register = refused := accessRefused_eq ..
    have range (out : ¬inRange) : nodeReadBody address register count s = answer 0x38 4 [] s ∧
        nodeWriteBody address register count s = answer 0x39 4 [] s :=
      ⟨(nodeReadBody_eq ..).trans (if_pos out), (nodeWriteBody_eq ..).trans (if_pos out)⟩
    refine ⟨fun out => ⟨?_, ?_⟩, fun code within ended => ⟨?_, ?_⟩, fun within begun => ⟨?_, ?_⟩⟩
    · exact congrArg _ (request_result takes 0x38 (range out).1 rfl rfl)
    · exact congrArg _ (request_result takes 0x39 (range out).2 rfl rfl)
    · refine congrArg _ (request_result takes 0x38 (body := nodeReadBody address register count)
        (t := answer 0x38 code [] s) ?_ rfl rfl)
      rw [nodeReadBody_eq, if_neg (not_not_intro within), refusal, ended]
    · refine congrArg _ (request_result takes 0x39 (body := nodeWriteBody address register count)
        (t := answer 0x39 code [] s) ?_ rfl rfl)
      rw [nodeWriteBody_eq, if_neg (not_not_intro within), refusal, ended]
    · refine congrArg _ (request_result takes 0x38 (body := nodeReadBody address register count)
        (t := { s with live := placeRequest .window address (.read wide register count) .window (busy .nodeRead) }) ?_
        (congrArg Part.state ((outer_part (outer_placeRequest ..)).trans rfl))
        ((outer_linkState (outer_placeRequest ..)).trans rfl))
      rw [nodeReadBody_eq, if_neg (not_not_intro within), refusal, begun]
      rfl
    · refine congrArg _ (request_result takes 0x39 (body := nodeWriteBody address register count)
        (t := { s with live := placeRequest .window address (.write wide register data) .window (busy .nodeWrite) }) ?_
        (congrArg Part.state ((outer_part (outer_placeRequest ..)).trans rfl))
        ((outer_linkState (outer_placeRequest ..)).trans rfl))
      rw [nodeWriteBody_eq, if_neg (not_not_intro within), refusal, begun, windowRead_start _ (by exact within.2.2.2)]
      rfl
  case ends =>
    intro ending counted code filled freed ended
    have management : counted.management = s.live.management := countTransaction_management none q ending
    have window : counted.link.window = s.live.link.window := countTransaction_window ..
    have delivered : deliverOutcome s.active q ending counted =
        finishAccess code { counted with link := { counted.link with window := filled } } := by
      rw [deliverOutcome_window _ _ owner, windowEnds_eq, window] <;> rfl
    refine ⟨fun read access => ?_, fun write access => ?_⟩
    · rw [exec_reply (reply := reply) free busy sent (by simp [read]), transactionEnd]
      refine congrArg (fun l => Host.Outcome.next { s with live := settleCheck (freeLink l) }) (delivered.trans ?_)
      rw [(finishAccess_eq _ _).1 (by exact (congrArg _ management).trans access), management]
      rfl
    · rw [exec_reply (reply := reply) free busy sent (by simp [write]), transactionEnd]
      refine congrArg (fun l => Host.Outcome.next { s with live := settleCheck (freeLink l) }) (delivered.trans ?_)
      rw [(finishAccess_eq _ _).2 (by exact (congrArg _ management).trans access), management]
      rfl

end Sys2Proof.Machine


/-! The recovery of a stuck line (R152 to R154). -/

namespace Sys2Proof.Machine

theorem attemptEnds_recovering {l : Live} (attempting : l.link.attempting = true) (state : l.link.state = .recovering)
    (img : Bank) (released : Bool) : attemptEnds img released l = recoveringAttempt img released l := by
  simp only [attemptEnds, attempting, state, if_true]

theorem attemptEnds_failed {l : Live} (attempting : l.link.attempting = true) (state : l.link.state = .failed)
    (img : Bank) (released : Bool) : attemptEnds img released l = failedAttempt released l := by
  simp only [attemptEnds, attempting, state, if_true]

theorem reachableNodes_eq (k : Link) :
    reachableNodes k = (k.directory.filter fun m => m.state == .bound || m.state == .spare).length := by
  simp [reachableNodes]

theorem loseAll_eq (k : Link) : loseAll k = { k with directory := k.directory.map fun m =>
    if m.state = .bound ∨ m.state = .spare then { m with state := .lost } else m } := by
  refine congrArg (fun d => { k with directory := d }) (List.map_congr_left fun m _ => ?_)
  cases state : m.state <;> simp

/-- The link FAILED, from the state in which its third attempt has ended: LINK_FAILED, the roles of the bound nodes, the
waiting window access, the probes and the series (R153). -/
theorem linkFails_eq {img : Bank} {l gone access : Live} (lost : (l.onLinkBlock fun k =>
      { loseAll k with state := .failed, retryTimer := some (l.now + failedRetry) }) = gone)
    (ended : cancelAccess rLinkDown (linkGone img (latch kLinkFailed (reachableNodes l.link) gone)) = access)
    (part : access.part = l.part) : linkFails img l =
      let kept := withdraw (fun q => q.owner == .probe || q.owner == .rollcall) access
      let quiet : Live := { kept with link := { kept.link with series := none } }
      if l.part.state = .starting ∨ l.part.state = .waking then enterRun img quiet else quiet := by
  subst lost ended
  exact ite_of_iff (by rw [← part]; rfl) rfl rfl

/-- Settles O43. -/
theorem stuckLinesAreRecovered : Obligations.StuckLinesAreRecovered := by
  intro s free img k n on done ended
  have attempt (released : Bool) : exec (.recoveryAttemptEnd released) s = done (attemptEnds img released s.live) :=
    congrArg Host.Outcome.next (s.running_free _ free)
  refine ⟨fun up awake => ?stuck, fun recovering attempting => ?recovering, fun failed attempting => ?failed,
    fun e => ⟨fun due => ?delay, fun due => ?retry⟩⟩
  case stuck =>
    intro broken
    have stuck : exec .lineStuck s = done (stuckTransaction img (on broken)) :=
      (congrArg Host.Outcome.next (s.running_free _ free)).trans (congrArg done (if_pos ⟨up, awake⟩))
    refine ⟨fun idle => ?_, fun q busy => ⟨fun round => ?_, fun other => ?_⟩⟩
    · refine stuck.trans (congrArg done ?_)
      have idle : (on broken).link.onLink = none := idle
      simp only [stuckTransaction, idle]
    · refine stuck.trans (congrArg done ?_)
      have busy : (on broken).link.onLink = some q := busy
      simp only [stuckTransaction, busy, round, if_true]
      refine congrArg freeLink ?_
      by_cases left : k.leftOver = none
      · exact (if_neg (by rw [show (on broken).link.leftOver = none from left]; simp)).trans (by rw [if_pos left]; rfl)
      · exact (if_pos (Option.isSome_iff_ne_none.2 left)).trans (by rw [if_neg left]; rfl)
    · refine stuck.trans (congrArg done ?_)
      have busy : (on broken).link.onLink = some q := busy
      simp only [stuckTransaction, busy, other]
      rfl
  case recovering =>
    intro running
    have ends (released : Bool) : exec (.recoveryAttemptEnd released) s = done (recoveringAttempt img released s.live) :=
      (attempt released).trans (congrArg done (attemptEnds_recovering attempting recovering img released))
    refine ⟨ends true, fun few => (ends false).trans (congrArg done (if_pos few)), fun many => ?_⟩
    intro reached gone failed access kept l
    refine (ends false).trans (congrArg done ?_)
    have fails : recoveringAttempt img false s.live = linkFails img (on ended) := if_neg (Nat.not_lt.2 many)
    have lost : ((on ended).onLinkBlock fun k =>
        { loseAll k with state := .failed, retryTimer := some (s.live.now + failedRetry) }) = on failed :=
      congrArg (fun j : Link => on { j with state := .failed, retryTimer := some (s.live.now + failedRetry) })
        (loseAll_eq ended)
    have part : access.part = s.live.part :=
      (cancelAccess_part ..).1.trans ((outer_part (outer_linkGone ..)).trans ((outer_part (outer_latch ..)).trans rfl))
    exact fails.trans (linkFails_eq lost (by rw [reachableNodes_eq]; rfl) part)
  case failed =>
    intro back
    have ends (released : Bool) : exec (.recoveryAttemptEnd released) s = done (failedAttempt released s.live) :=
      (attempt released).trans (congrArg done (attemptEnds_failed attempting failed img released))
    exact ⟨ends false, ends true⟩
  case delay => exact running_onExpiry free (timer := fun l => l.link.delayTimer) due rfl
  case retry =>
    refine congrArg Host.Outcome.next ((s.running_free _ free).trans ?_)
    have due : s.live.link.retryTimer = some e := due
    simp only [retryTimerExpires, due]
    rfl

end Sys2Proof.Machine


/-! Nodes that are excluded or admitted, and what becomes of the roles and their budget records (R107, R108, R131 to R133,
R148). -/

namespace Sys2Proof.Machine

/-! ### Several roles at once -/

theorem ofFn_get {α : Type} {n : Nat} (v : Vector α n) : (Vector.ofFn fun i => v.get i) = v :=
  Vector.ofFn_getElem

/-- Changes at distinct places are one change of the whole vector. -/
theorem foldl_updateAt {α : Type} {n : Nat} (f : Fin n → α → α) : ∀ (is : List (Fin n)), is.Nodup → ∀ v : Vector α n,
    is.foldl (fun v i => updateAt v i (f i)) v =
      Vector.ofFn fun i => if is.contains i then f i (v.get i) else v.get i
  | [], _, v => (ofFn_get v).symm
  | j :: rest, distinct, v => by
    obtain ⟨apart, distinct⟩ := List.nodup_cons.1 distinct
    rw [List.foldl_cons, foldl_updateAt f rest distinct]
    refine congrArg Vector.ofFn (funext fun i => ?_)
    by_cases here : i = j
    · subst here
      simp [apart]
    · rw [updateAt_other v j i (f j) here]
      simp [here]

/-- A fold that changes one part of a state is a fold of that part. -/
theorem foldl_part {α β σ : Type} (put : σ → β → σ) (f : σ → α → σ) (g : β → α → β)
    (step : ∀ s b a, f (put s b) a = put s (g b a)) (xs : List α) (s : σ) (b : β) :
    xs.foldl f (put s b) = put s (xs.foldl g b) := by
  induction xs generalizing b with
  | nil => rfl
  | cons x rest ih => rw [List.foldl_cons, List.foldl_cons, step, ih]

theorem foldl_filter {α β : Type} (p : β → α → Bool) (xs : List α) (l : List β) :
    xs.foldl (fun l x => l.filter fun b => p b x) l = l.filter fun b => xs.all (p b) := by
  induction xs generalizing l with
  | nil => exact (List.filter_eq_self.2 fun _ _ => rfl).symm
  | cons x rest ih =>
    rw [List.foldl_cons, ih, List.filter_filter]
    refine List.filter_congr fun b _ => ?_
    rw [List.all_cons, Bool.and_comm]

theorem foldl_optionFilter {α β : Type} (p : β → α → Bool) (xs : List α) (o : Option β) :
    xs.foldl (fun o x => o.filter fun b => p b x) o = o.filter fun b => xs.all (p b) := by
  induction xs generalizing o with
  | nil => cases o <;> rfl
  | cons x rest ih =>
    rw [List.foldl_cons, ih]
    cases o with
    | none => rfl
    | some b => cases here : p b x <;> simp [Option.filter, here]

theorem all_ne_eq {α : Type} [DecidableEq α] (xs : List α) (a : α) : (xs.all fun x => a != x) = !xs.contains a := by
  induction xs with
  | nil => rfl
  | cons x rest ih =>
    rw [List.all_cons, ih, List.contains_cons, Bool.not_or]
    rfl

/-! ### The removal of roles' work (R131, R136) -/

/-- Actuators changed, with nothing else. -/
theorem foldl_onActuator {roles : List Role} (distinct : roles.Nodup) (f : Role → Actuator → Actuator) (l : Live) :
    roles.foldl (fun l r => onActuator r (f r) l) l = { l with sequencer := { l.sequencer with
      actuators := Vector.ofFn fun r =>
        if roles.contains r then f r (l.sequencer.actuators.get r) else l.sequencer.actuators.get r } } := by
  rw [← foldl_updateAt f roles distinct]
  exact foldl_part (fun (l : Live) v => { l with sequencer := { l.sequencer with actuators := v } })
    (fun l r => onActuator r (f r) l) (fun v r => updateAt v r (f r)) (fun _ _ _ => rfl) roles l l.sequencer.actuators

/-- Roles lose their work, its waiting requests and their pending targets, and their actuators change. -/
theorem foldl_abandon {roles : List Role} (distinct : roles.Nodup) (f : Role → Actuator → Actuator) (l : Live) :
    roles.foldl (fun l r => onActuator r (f r) (abandon r l)) l = { l with
      sequencer := { l.sequencer with
        actuators := Vector.ofFn fun r =>
          if roles.contains r then f r { l.sequencer.actuators.get r with pendingTarget := none }
          else l.sequencer.actuators.get r
        queue := l.sequencer.queue.filter fun x => !roles.contains x.role
        inFlight := l.sequencer.inFlight.filter fun x => !roles.contains x.role
        suspended := l.sequencer.suspended.filter fun x => !roles.contains x.role }
      link := { l.link with requests := l.link.requests.filter fun x => !roles.any fun r => x.owner.isItemOf r } } := by
  have step (r : Role) (m : Live) : onActuator r (f r) (abandon r m) = { m with
      sequencer := { m.sequencer with
        actuators := updateAt m.sequencer.actuators r fun a => f r { a with pendingTarget := none }
        queue := m.sequencer.queue.filter fun x => x.role != r
        inFlight := m.sequencer.inFlight.filter fun x => x.role != r
        suspended := m.sequencer.suspended.filter fun x => x.role != r }
      link := { m.link with requests := m.link.requests.filter fun x => !x.owner.isItemOf r } } := by
    rw [abandon, setPending, onActuator_onActuator, leaveWork_eq]
    rfl
  have folded : ∀ (rs : List Role) (m : Live), rs.foldl (fun l r => onActuator r (f r) (abandon r l)) m = { m with
      sequencer := { m.sequencer with
        actuators := rs.foldl (fun v r => updateAt v r fun a => f r { a with pendingTarget := none }) m.sequencer.actuators
        queue := rs.foldl (fun q r => q.filter fun x => x.role != r) m.sequencer.queue
        inFlight := rs.foldl (fun q r => q.filter fun x => x.role != r) m.sequencer.inFlight
        suspended := rs.foldl (fun o r => o.filter fun x => x.role != r) m.sequencer.suspended }
      link := { m.link with
        requests := rs.foldl (fun q r => q.filter fun x => !x.owner.isItemOf r) m.link.requests } } := by
    intro rs
    induction rs with
    | nil => exact fun m => rfl
    | cons r rest ih =>
      intro m
      rw [List.foldl_cons, ih, step]
      rfl
  rw [folded, foldl_updateAt (fun r a => f r { a with pendingTarget := none }) roles distinct]
  simp only [foldl_filter (fun (x : QueueEntry) r => x.role != r), foldl_filter (fun (x : Item) r => x.role != r),
    foldl_optionFilter (fun (x : Suspended) r => x.role != r), foldl_filter (fun (x : LinkRequest) r => !x.owner.isItemOf r),
    all_ne_eq, List.not_any_eq_all_not]

/-! ### What the budget hears of roles (R107, R108) -/

theorem dropAllShed_eq (roles : List Role) (l : Live) : dropAllShed roles l = { l with budget := { l.budget with
    shedList := l.budget.shedList.filter fun x => !roles.contains x.role } } := by
  have folded := foldl_part (fun (l : Live) q => { l with budget := { l.budget with shedList := q } })
    (fun l r => dropShed r l) (fun q r => q.filter fun x => x.role != r) (fun _ _ _ => rfl) roles l l.budget.shedList
  refine Eq.trans folded ?_
  simp only [foldl_filter (fun (x : ShedEntry) r => x.role != r), all_ne_eq]

theorem anyShed_eq (roles : List Role) (l : Live) :
    anyShed roles l = l.budget.shedList.any fun x => roles.contains x.role := by
  refine Bool.eq_iff_iff.2 ?_
  simp only [anyShed, Budget.shedEntry, List.any_eq_true, List.find?_isSome, beq_iff_eq, List.contains_iff_mem]
  constructor
  · rintro ⟨r, member, x, listed, rfl⟩
    exact ⟨x, listed, member⟩
  · rintro ⟨x, listed, member⟩
    exact ⟨x.role, member, x, listed, rfl⟩

/-- The records of distinct roles change at once, and load was released where one of them holds less. -/
theorem reportAll_eq (f : Role → Consumer → Consumer) : ∀ (roles : List Role), roles.Nodup → ∀ l : Live,
    reportAll f roles l = ({ l with budget := { l.budget with
        consumers := Vector.ofFn fun r =>
          if roles.contains r then f r (l.budget.consumers.get r) else l.budget.consumers.get r } },
      decide (∃ r ∈ roles, (f r (l.budget.consumers.get r)).commitment < (l.budget.consumers.get r).commitment))
  | [], _, l => by
    simp [reportAll, ofFn_get]
  | r :: rest, distinct, l => by
    obtain ⟨apart, distinct⟩ := List.nodup_cons.1 distinct
    have others : ∀ x ∈ rest, (updateAt l.budget.consumers r (f r)).get x = l.budget.consumers.get x :=
      fun x member => updateAt_other _ _ _ _ fun here => apart (here ▸ member)
    rw [reportAll]
    simp only [reportAll_eq f rest distinct]
    refine Prod.ext ?_ ?_
    · refine congrArg (fun v : Vector Consumer 20 => ({ l with budget := { l.budget with consumers := v } } : Live))
        (congrArg Vector.ofFn (funext fun x => ?_))
      by_cases here : x = r
      · subst here
        simp [apart, report, Budget.onConsumer]
      · simp [here, report, Budget.onConsumer, updateAt_other]
    · simp only [report, Budget.onConsumer, Budget.consumer, List.mem_cons, exists_eq_or_imp, Bool.decide_or]
      refine congrArg _ (decide_eq_decide.2 (exists_congr fun x => and_congr_right fun member => ?_))
      rw [others x member]

theorem unreachable_eq (img : Bank) (r : Role) (c : Consumer) : unreachable img r c =
    if r.val < 12 then { c with commitment := 0 }
    else if c.transit = none then c
    else { c with transit := none, commitment := loadOf img r c.accepted } :=
  ite_of_iff decide_eq_true_iff rfl (ite_of_iff Option.isNone_iff_eq_none rfl rfl)

section Reports

variable (img : Bank) (f : Role → Consumer → Consumer) {roles : List Role} (distinct : roles.Nodup)

/-- The live part after the budget has heard of roles, the test for shedding made where one of them was shed. -/
def budgetHears (img : Bank) (f : Role → Consumer → Consumer) (roles : List Role) (l : Live) : Live :=
  let told : Live := { l with budget := { l.budget with
    consumers := Vector.ofFn fun r =>
      if roles.contains r then f r (l.budget.consumers.get r) else l.budget.consumers.get r
    shedList := l.budget.shedList.filter fun x => !roles.contains x.role } }
  if l.budget.shedList.any (fun x => roles.contains x.role) = true then testShed img told else told

/-- One of the roles holds less load with its new record. -/
def releases (f : Role → Consumer → Consumer) (roles : List Role) (b : Budget) : Bool :=
  decide (∃ r ∈ roles, (f r (b.consumers.get r)).commitment < (b.consumers.get r).commitment)

include distinct

theorem tellStates_eq (l : Live) : tellStates img f roles l = (budgetHears img f roles l, releases f roles l.budget) := by
  unfold tellStates
  simp only [anyShed_eq, dropAllShed_eq, reportAll_eq f roles distinct]
  rfl

theorem reportStates_eq (l : Live) : reportStates img f roles l =
    if releases f roles l.budget then roomNotice img (budgetHears img f roles l) else budgetHears img f roles l := by
  simp only [reportStates, tellStates_eq img f distinct]
  rfl

theorem rolesGone_eq (l : Live) : rolesGone img roles l =
    let cut := roles.foldl (fun l r =>
      onActuator r (fun a => { a with state := if a.state = .faulted then .faulted else .offline }) (abandon r l)) l
    offerAfter img (releases (unreachable img) roles cut.budget) (budgetHears img (unreachable img) roles cut) := by
  simp only [rolesGone, tellStates_eq img (unreachable img) distinct]

end Reports

/-! ### The requests -/

theorem settleCheck_of_waking {l : Live} (waking : (settleCheck l).part.state = .waking) : settleCheck l = l := by
  have parked : (enterWatch l).part.state = .watch := by
    unfold enterWatch linkParks
    dsimp only [Live.onLinkBlock, withdraw]
    have kept (m : Live) : (if m.link.state = .recovering then cancelAccess rNoReply m else m).part = m.part := by
      split
      · exact (cancelAccess_part ..).1
      · rfl
    rw [kept, outer_part (outer_sequencerParks ..)]
  unfold settleCheck at waking ⊢
  split
  · rename_i settled
    rw [if_pos settled, parked] at waking
    cases waking
  · rfl

/-- A request after whose effect the part is not in WAKING with the link FAILED ends with its reply. -/
theorem request_of_settled {s : State} (takes : s.takes = true) (code : Byte) {body : State → State} {t : State}
    (h : body s = t) (settled : ¬(t.live.part.state = .waking ∧ t.live.link.state = .failed)) :
    request code body s = resetRange t := by
  subst h
  obtain ⟨free, onBus, awake, -, -⟩ := s.takes_iff.mp takes
  have carried := orBusy_of_takes takes code (body := fun t => resetRange (body t))
  rw [request, takeRequest_awake free onBus awake, carried]
  exact congrArg (fun l => { resetRange (body s) with live := l }) (if_neg settled)

theorem afterProbes_linkState (l : Live) :
    (afterProbes l).part = l.part ∧ (afterProbes l).link.state = l.link.state := by
  unfold afterProbes
  split
  · refine ⟨(startSeries_runs _).1, ?_⟩
    unfold startSeries requestRound
    split
    · rfl
    · exact (outer_linkState (outer_placeRequest ..)).trans rfl
  · exact ⟨rfl, rfl⟩

theorem excludeEntry_eq {n : Node} {address : Nat} (here : n.address = address) (img : Bank) (l : Live) :
    excludeEntry img n l =
      let quiet := withdraw (fun q => q.owner == .probe && q.address == address)
        { l with link := l.link.onNode address fun m => { m with state := .excluded } }
      afterProbes (if n.state = .bound ∨ n.state = .spare ∨ (n.state = .lost ∧ namesSerial img n.serial = true)
        then nodeGone img n.serial quiet else quiet) := by
  subst here
  refine congrArg afterProbes (ite_of_iff ?_ rfl rfl)
  simp [or_assoc]

theorem excludeEntry_states (img : Bank) (n : Node) (l : Live) :
    (excludeEntry img n l).part = l.part ∧ (excludeEntry img n l).link.state = l.link.state := by
  rw [excludeEntry_eq rfl]
  dsimp only
  rw [(afterProbes_linkState _).1, (afterProbes_linkState _).2]
  split
  · exact ⟨(outer_part (outer_nodeGone ..)).trans rfl, (outer_linkState (outer_nodeGone ..)).trans rfl⟩
  · exact ⟨rfl, rfl⟩

section Requests

variable {s : State} (takes : s.takes = true)
include takes

theorem exec_excludeNode {address : Nat} {n : Node} (low : 1 ≤ address) (high : address ≤ 16)
    (found : s.live.link.nodeAt address = some n) : exec (.excludeNode address) s =
      .next (resetRange (answer 0x1D 0 [] { s with live := settleCheck (excludeEntry s.active n s.live) })) := by
  refine congrArg _ (request_of_settled takes 0x1D (body := excludeNodeBody address) ?_ fun failed => ?_)
  · simp only [excludeNodeBody, isAddress_of_range low high, if_true, found]
    rfl
  · obtain ⟨waking, down⟩ := failed
    have waking : (settleCheck (excludeEntry s.active n s.live)).part.state = .waking := waking
    have down : (settleCheck (excludeEntry s.active n s.live)).link.state = .failed := down
    obtain ⟨part, link⟩ := excludeEntry_states s.active n s.live
    have same := settleCheck_of_waking waking
    rw [same, part] at waking
    rw [same, link] at down
    obtain ⟨-, -, -, -, settled⟩ := s.takes_iff.mp takes
    exact settled ⟨waking, down⟩

theorem exec_admitNode {address : Nat} {n : Node} (low : 1 ≤ address) (high : address ≤ 16)
    (found : s.live.link.nodeAt address = some n) : exec (.admitNode address) s =
      .next (resetRange (answer 0x1E 0 [] { s with live := admitEntry n s.live })) := by
  refine congrArg _ (request_result takes 0x1E (body := admitNodeBody address)
    (t := answer 0x1E 0 [] { s with live := admitEntry n s.live }) ?_ ?_ ?_)
  · simp only [admitNodeBody, isAddress_of_range low high, if_true, found]
    rfl
  all_goals
    unfold admitEntry
    split <;> rfl

theorem exec_nodeRequest_out {address : Nat} (out : address = 0 ∨ 16 < address ∨ s.live.link.nodeAt address = none) :
    exec (.excludeNode address) s = .next (resetRange (answer 0x1D 4 [] s)) ∧
    exec (.admitNode address) s = .next (resetRange (answer 0x1E 4 [] s)) := by
  have unnamed : (if isAddress address then s.live.link.nodeAt address else none) = none := by
    by_cases inside : address = 0 ∨ 16 < address
    · rw [isAddress_out inside]
      rfl
    · rw [(or_assoc.2 out).resolve_left inside, ite_self]
  refine ⟨congrArg _ (request_result takes 0x1D (body := excludeNodeBody address) (t := answer 0x1D 4 [] s) ?_ rfl rfl),
    congrArg _ (request_result takes 0x1E (body := admitNodeBody address) (t := answer 0x1E 4 [] s) ?_ rfl rfl)⟩
  · simp only [excludeNodeBody, unnamed]
    rfl
  · simp only [admitNodeBody, unnamed]
    rfl

theorem exec_clearFault (r : Role) : exec (.clearFault r.val) s =
    .next (resetRange (answer 0x19 0 [] { s with live := clearFaultOf s.active r s.live })) := by
  refine congrArg _ (request_result takes 0x19 (body := clearFaultBody r.val)
    (t := answer 0x19 0 [] { s with live := clearFaultOf s.active r s.live }) ?_
    (congrArg Part.state (outer_part (outer_clearFaultOf ..))) (outer_linkState (outer_clearFaultOf ..)))
  simp only [clearFaultBody, roleNumber_val]
  rfl

end Requests

/-! ### CLEAR_FAULT (R133) -/

section ClearFault

variable {img : Bank} {r : Role} {l : Live}

theorem clearFaultOf_unfaulted (sound : (actuator l r).state ≠ .faulted) : clearFaultOf img r l = l := if_neg sound

variable (faulted : (actuator l r).state = .faulted)
include faulted

theorem clearFaultOf_bound (bound : nodeStateOf img l r = some .bound) : clearFaultOf img r l =
    rolesUncertain img [r] (onActuator r (fun a => { a with fault := none, overruns := 0 }) l) := by
  have bound : nodeStateOf img (onActuator r (fun a => { a with fault := none, overruns := 0 }) l) r = some .bound := bound
  simp only [clearFaultOf, faulted, if_true, bound]

theorem clearFaultOf_out (out : nodeStateOf img l r = some .lost ∨ nodeStateOf img l r = some .excluded) :
    clearFaultOf img r l = reportStates img (unreachable img) [r]
      (setActuatorState r .offline (onActuator r (fun a => { a with fault := none, overruns := 0 }) l)) := by
  have out : nodeStateOf img (onActuator r (fun a => { a with fault := none, overruns := 0 }) l) r = some .lost ∨
      nodeStateOf img (onActuator r (fun a => { a with fault := none, overruns := 0 }) l) r = some .excluded := out
  rcases out with out | out <;> simp only [clearFaultOf, faulted, if_true, out]

theorem clearFaultOf_absent (absent : nodeStateOf img l r = none ∨ nodeStateOf img l r = some .spare) :
    clearFaultOf img r l =
      let sound := onActuator r (fun a => { a with fault := none, overruns := 0 }) l
      if l.link.state = .failed ∧ (binding img r).serial ≠ 0 then
        reportStates img (unreachable img) [r] (setActuatorState r .offline sound)
      else reportStates img (fun _ => unknownLevel) [r]
        (setActuatorState r .absent (if isBlower r then clearCapped (zoneOf r) sound else sound)) := by
  have absent : nodeStateOf img (onActuator r (fun a => { a with fault := none, overruns := 0 }) l) r = none ∨
      nodeStateOf img (onActuator r (fun a => { a with fault := none, overruns := 0 }) l) r = some .spare := absent
  have bound : isBound img r = true ↔ (binding img r).serial ≠ 0 := by simp [isBound]
  rcases absent with absent | absent <;>
  · simp only [clearFaultOf, faulted, if_true, absent]
    exact ite_of_iff (and_congr_right fun _ => bound) rfl rfl

end ClearFault

theorem setActuatorState_absent (r : Role) (l : Live) :
    setActuatorState r .absent (if isBlower r then
        clearCapped (zoneOf r) (onActuator r (fun a => { a with fault := none, overruns := 0 }) l)
      else onActuator r (fun a => { a with fault := none, overruns := 0 }) l) =
    { l with
      sequencer := { l.sequencer with
        actuators := l.sequencer.actuators.set r { actuator l r with fault := none, overruns := 0, state := .absent } }
      budget := { l.budget with
        capped := if 12 ≤ r.val ∧ r.val < 16 then l.budget.capped.set (zoneOf r) false else l.budget.capped } } := by
  by_cases blower : 12 ≤ r.val ∧ r.val < 16
  · rw [if_pos ((isBlower_iff r).2 blower), if_pos blower]
    simp [setActuatorState, onActuator, clearCapped, updateAt, actuator]
  · rw [if_neg (mt (isBlower_iff r).1 blower), if_neg blower]
    simp [setActuatorState, onActuator, updateAt, actuator]

theorem serveKept_eq (img : Bank) (r : Role) (l : Live) : serveKept img r l =
    match (actuator l r).target with
    | some t => if l.part.state = .run then targetArrival img r t l else l
    | none => l := by
  unfold serveKept
  cases (actuator l r).target with
  | none => exact ite_self l
  | some t => rfl

/-- Settles O44. -/
theorem nodesAreExcludedAdmittedAndFaultsCleared : Obligations.NodesAreExcludedAdmittedAndFaultsCleared := by
  refine ⟨fun s takes => ⟨fun address n low high found => ?node, fun address out => exec_nodeRequest_out takes out,
    fun r => ⟨fun sound => ?sound, fun faulted => ?faulted⟩, fun role out => ?_⟩,
    fun img f roles l distinct => ?roles, fun img serial l => ?named⟩
  case node =>
    have here := address_of_nodeAt found
    refine ⟨(exec_excludeNode takes low high found).trans ?_, (exec_admitNode takes low high found).trans ?_⟩
    · rw [excludeEntry_eq here]
    · refine congrArg (fun t => Host.Outcome.next (resetRange (answer 0x1E 0 [] t))) ?_
      subst here
      unfold admitEntry
      split <;> rfl
  case sound =>
    rw [exec_clearFault takes, clearFaultOf_unfaulted sound]
  case faulted =>
    refine ⟨fun bound => ?_, fun out => ?_, fun absent => ?_⟩
    · rw [exec_clearFault takes, clearFaultOf_bound faulted bound]
      rfl
    · rw [exec_clearFault takes, clearFaultOf_out faulted out]
      rfl
    · intro linkDown capped calm cleared cleared'
      rw [exec_clearFault takes, clearFaultOf_absent faulted absent]
      refine congrArg (fun t => Host.Outcome.next (resetRange (answer 0x19 0 [] { s with live := t })))
        (ite_of_iff Iff.rfl rfl ?_)
      rw [setActuatorState_absent]
      rfl
  · refine congrArg _ (request_result takes 0x19 (body := clearFaultBody role) (t := answer 0x19 4 [] s) ?_ rfl rfl)
    simp only [clearFaultBody, roleNumber_out out]
    rfl
  case roles =>
    intro u used gone lost blank heard released noticed cut unsure kept
    have lost_eq : unreachable img = lost := funext fun r => funext fun c => unreachable_eq img r c
    have hears (g : Role → Consumer → Consumer) (m : Live) (same : m.budget = l.budget) :
        budgetHears img g roles m = heard g m := by
      simp only [budgetHears, same]
      rfl
    have frees (g : Role → Consumer → Consumer) (b : Budget) (same : b = l.budget) :
        releases g roles b = true ↔ released g := by
      subst same
      exact decide_eq_true_iff
    have notices (g : Role → Consumer → Consumer) (m : Live) (same : m.budget = l.budget) :
        reportStates img g roles m = noticed g m := by
      rw [reportStates_eq img g distinct, hears g m same]
      exact ite_of_iff (frees g _ same) rfl rfl
    refine ⟨fun r c => unreachable_eq img r c, notices f l rfl, ?_, ?_⟩
    · rw [rolesGone_eq img distinct, foldl_abandon distinct, lost_eq]
      exact ite_of_iff (frees lost _ rfl) (congrArg _ (hears lost cut rfl)) (congrArg _ (hears lost cut rfl))
    · have uncertain : roles.foldl (fun l r => setActuatorState r .uncertain l) l = unsure :=
        foldl_onActuator distinct (fun _ a => { a with state := .uncertain }) l
      have serves : (fun l r => serveKept img r l) = kept := funext fun m => funext fun r => serveKept_eq img r m
      unfold rolesUncertain
      dsimp only
      rw [uncertain, serves]
      exact congrArg (fun m => roles.foldl kept m) (notices blank unsure rfl)
  case named =>
    intro bound named away
    have bound_eq : allRoles.filter (isBound img) = bound :=
      List.filter_congr fun r _ => by simp [isBound, bne, Bool.beq_eq_decide_eq]
    have named_eq : rolesOf img serial = named := by
      refine Eq.trans ?_ (List.filter_filter ..).symm
      refine List.filter_congr fun r _ => ?_
      rw [Bool.and_comm]
      simp [isBound, bne, Bool.beq_eq_decide_eq]
    refine ⟨by rw [nodeGone, named_eq], by rw [linkGone, bound_eq], ?_⟩
    rw [nodeBound, named_eq]
    refine congrArg (fun rs => rolesUncertain img rs l) (List.filter_congr fun r _ => ?_)
    simp [away, actuator, Bool.beq_eq_decide_eq, Bool.decide_or]

end Sys2Proof.Machine


/-! SETTLING, SLEEP, the ignition timer and RESTART (R134, R171, R181, R182). -/

namespace Sys2Proof.Machine

/-! ### The entry to SETTLING (R182) -/

/-- The link as SETTLING begins: its timers stopped, the waiting probes and rounds removed, and the series ended where no
BIND waits and neither a round nor a BIND is on the link. -/
theorem linkSettles_eq (l : Live) : linkSettles l = { l with link := { l.link with
    rollcallTimer := none, probeTimer := none
    series := if (∃ q ∈ l.link.requests, isBind q = true ∧ q.owner ≠ .probe) ∨
      l.link.onLink.any (fun q => q.owner == .rollcall) = true then l.link.series else none
    requests := l.link.requests.filter fun q => !isProbe q && !isRound q } } := by
  have left : ((l.link.requests.filter fun q => !isProbe q).filter fun q => !isRound q) =
      l.link.requests.filter fun q => !isProbe q && !isRound q := by
    rw [List.filter_filter]
    exact List.filter_congr fun q _ => Bool.and_comm ..
  have binds : (l.link.requests.filter fun q => !isProbe q && !isRound q).any isBind = true ↔
      ∃ q ∈ l.link.requests, isBind q = true ∧ q.owner ≠ .probe := by
    simp only [List.any_eq_true, List.mem_filter, Bool.and_eq_true, Bool.not_eq_true']
    refine exists_congr fun q => ?_
    have apart : isBind q = true → isRound q = false := by
      unfold isBind isRound
      cases q.command <;> simp
    have probe : isProbe q = false ↔ q.owner ≠ .probe := by simp [isProbe]
    rw [probe]
    constructor
    · rintro ⟨⟨member, free, -⟩, bind⟩
      exact ⟨member, bind, free⟩
    · rintro ⟨member, bind, free⟩
      exact ⟨⟨member, free, apart bind⟩, bind⟩
  unfold linkSettles
  dsimp only [withdraw, Live.onLinkBlock]
  rw [left]
  by_cases goesOn : (∃ q ∈ l.link.requests, isBind q = true ∧ q.owner ≠ .probe) ∨
      l.link.onLink.any (fun q => q.owner == .rollcall) = true
  · rw [if_pos goesOn]
    exact if_pos (Bool.or_eq_true_iff.2 (goesOn.imp_left binds.2))
  · rw [if_neg goesOn]
    exact if_neg fun either => goesOn ((Bool.or_eq_true_iff.1 either).imp_left binds.1)

theorem emptyQueue_link (l : Live) : (emptyQueue l).link = l.link := by
  have folded : ∀ (es : List QueueEntry) (m : Live), (es.foldl (fun l e =>
      let l := onActuator e.role (fun a =>
        { a with state := if a.state = .queued then .idle else a.state, pendingTarget := none }) l
      let l := if e.kind = .set then l else (report e.role endedMotion l).1
      if e.shed then dropShed e.role l else l) m).link = m.link := by
    intro es
    induction es with
    | nil => exact fun m => rfl
    | cons e rest ih =>
      intro m
      rw [List.foldl_cons, ih]
      dsimp only
      split <;> split <;> rfl
  exact folded _ _

theorem commandOff_link (r : Role) (l : Live) : (commandOff r l).link = l.link := by
  unfold commandOff
  split
  · rfl
  · split
    · exact joinTail_link ..
    · exact joinTail_link ..
    · exact joinTail_link ..
    · rfl

/-- The sequencer's entry to SETTLING places requests of items alone. -/
theorem sequencerSettles_itemsBeside (img : Bank) {l : Live} {rs : List LinkRequest} (waiting : l.link.requests = rs) :
    ItemsBeside rs (sequencerSettles img l) := by
  have link : ∀ (rs : List Role) (m : Live), (rs.foldl (fun l r => commandOff r l) m).link = m.link := by
    intro rs
    induction rs with
    | nil => exact fun m => rfl
    | cons r rest ih => exact fun m => (ih _).trans (commandOff_link r m)
  have off : ItemsBeside rs (setRoles.foldl (fun l r => commandOff r l) (emptyQueue l)) :=
    ItemsBeside.of_link (l := l) ⟨fun q member => .inl (waiting ▸ member)⟩ ((link ..).trans (emptyQueue_link l))
  refine ItemsBeside.offerAfter ?_ img _
  split
  · exact off.testShed img
  · exact off

/-- A request whose waiting entry SETTLING removes. -/
theorem settled_of_waiting {img : Bank} {l : Live} {q : LinkRequest} (member : q ∈ (enterSettling img l).link.requests) :
    q.owner ≠ .probe ∧ isRound q = false := by
  have beside : ItemsBeside (l.link.requests.filter fun q => !isProbe q && !isRound q) (enterSettling img l) := by
    unfold enterSettling
    dsimp only
    rw [linkSettles_eq]
    exact sequencerSettles_itemsBeside img rfl
  rcases beside.waiting q member with kept | ⟨other, role, id, item⟩
  · simpa [isProbe] using (List.mem_filter.1 kept).2
  · exact ⟨by rw [item]; simp, other⟩

theorem askSettle_asleep {l : Live} (run : l.part.state = .run) (img : Bank) :
    (settleCheck (askSettle img l)).part.state ≠ .waking := by
  intro waking
  rw [settleCheck_of_waking waking] at waking
  unfold askSettle at waking
  split at waking
  · exact absurd (run.symm.trans waking) (by decide)
  · have settles : (enterSettling img l).part.state = .settling := by
      unfold enterSettling
      dsimp only
      rw [outer_part (outer_sequencerSettles ..), linkSettles_eq]
    exact absurd (settles.symm.trans waking) (by decide)

theorem restartBody_eq (s : State) : restartBody s = answer 0x51 0 [] { s with live := { s.live with
    part := { s.live.part with restartTimer := some (s.live.part.restartTimer.getD (s.live.now + 20)) } } } := by
  have timer : (match s.live.part.restartTimer with | some t => some t | none => some (s.live.now + restartDelay)) =
      some (s.live.part.restartTimer.getD (s.live.now + 20)) := by
    cases s.live.part.restartTimer <;> rfl
  rw [← timer]
  rfl

/-- Settles O52. -/
theorem sleepIgnitionAndRestartLeadToTheirStates : Obligations.SleepIgnitionAndRestartLeadToTheirStates := by
  refine ⟨fun img l => ?asked, fun img l => ?settling, fun l => ?ended, fun s e free due => ?ignition, fun s takes => ?requests⟩
  case asked =>
    intro asked
    unfold askSettle
    cases l.management.saving <;> rfl
  case settling =>
    intro t k part goesOn begun
    have settles : t = sequencerSettles img begun := congrArg (sequencerSettles img) (linkSettles_eq _)
    have outer : t.outer = begun.outer := by rw [settles, outer_sequencerSettles]
    refine ⟨settles, outer_part outer, outer_planner outer, congrArg (fun x : Live => x.link.rollcallTimer) outer,
      congrArg (fun x : Live => x.link.probeTimer) outer, fun q member => ?_, (outer_slots outer :), (outer_now outer :)⟩
    obtain ⟨probe, round⟩ := settled_of_waiting member
    refine ⟨probe, fun reset command => ?_⟩
    rw [isRound, command] at round
    cases round
  case ended =>
    intro ended
    have quiet : (l.part.state = .settling ∧ l.sequencer.quiet ∧ l.management.saving.isNone) ↔ ended := by
      simp [Sequencer.quiet, and_assoc, ended]
    exact ⟨fun done => if_pos (quiet.2 done), fun going => if_neg (mt quiet.1 going)⟩
  case ignition =>
    exact running_onExpiry free (timer := fun l => l.part.ignitionTimer) due rfl
  case requests =>
    intro answered
    refine ⟨fun run => ?_, fun settling => ?_, fun early => ?_, ?_⟩
    · refine congrArg _ (request_of_settled takes 0x50 (body := sleepBody)
        (t := { s with live := settleCheck (askSettle s.active answered) }) ?_ fun failed => ?_)
      · simp only [sleepBody, run]
        rfl
      · obtain ⟨waking, -⟩ := failed
        exact askSettle_asleep (l := answered) run s.active waking
    · refine congrArg _ (request_result takes 0x50 (body := sleepBody) (t := answer 0x50 0 [] s) ?_ rfl rfl)
      simp only [sleepBody, settling]
      rfl
    · refine congrArg _ (request_result takes 0x50 (body := sleepBody) (t := answer 0x50 9 [] s) ?_ rfl rfl)
      rcases early with early | early <;>
      · simp only [sleepBody, early]
        rfl
    · intro timer l
      refine congrArg _ (request_result takes 0x51 (body := restartBody) (t := answer 0x51 0 [] { s with live := l })
        (restartBody_eq s) rfl rfl)

end Sys2Proof.Machine


/-! The entries to the part states and the notices of IGNITION (R16, R73, R94, R134, R135, R156, R181 to R184). -/

namespace Sys2Proof.Machine

/-! ### The sequencer at the entry to SETTLING (R134) -/

/-- An idempotent change at the places that a list names changes each of them once. -/
theorem get_foldl_updateAt {α β : Type} {n : Nat} (p : β → Bool) (key : β → Fin n) {f : α → α} (once : ∀ a, f (f a) = f a)
    (xs : List β) (v : Vector α n) (i : Fin n) :
    (xs.foldl (fun v x => if p x then updateAt v (key x) f else v) v).get i =
      if xs.any fun x => p x && key x == i then f (v.get i) else v.get i := by
  induction xs generalizing v with
  | nil => rfl
  | cons x rest ih =>
    rw [List.foldl_cons, ih, List.any_cons]
    by_cases taken : p x = true
    · by_cases here : key x = i
      · subst here
        simp [taken, once]
      · have away : i ≠ key x := fun same => here same.symm
        simp [taken, here, updateAt_other v (key x) i f away]
    · simp [taken]

theorem foldl_filter_if {α β : Type} (p : β → Bool) (keep : β → α → Bool) (xs : List β) (l : List α) :
    xs.foldl (fun l x => if p x then l.filter (keep x) else l) l = l.filter fun a => !xs.any fun x => p x && !keep x a := by
  induction xs generalizing l with
  | nil => exact (List.filter_eq_self.2 fun _ _ => rfl).symm
  | cons x rest ih =>
    rw [List.foldl_cons, ih]
    cases taken : p x
    · simp [taken]
    · rw [if_pos rfl, List.filter_filter]
      refine List.filter_congr fun a _ => ?_
      simp [taken, Bool.and_comm]

/-- An actuator whose entry SETTLING removes rests with nothing pending (R134). -/
def emptied (a : Actuator) : Actuator :=
  { a with state := if a.state = .queued then .idle else a.state, pendingTarget := none }

theorem emptied_emptied (a : Actuator) : emptied (emptied a) = emptied a := by
  have state : (emptied a).state ≠ .queued := by
    unfold emptied
    dsimp only
    split <;> simp_all
  exact congrArg (fun st => { emptied a with state := st }) (if_neg state)

theorem emptyQueue_eq (l : Live) : emptyQueue l = { l with
    sequencer := { l.sequencer with
      queue := []
      actuators := l.sequencer.queue.foldl (fun v e => if true then updateAt v e.role emptied else v) l.sequencer.actuators }
    budget := { l.budget with
      consumers := l.sequencer.queue.foldl (fun v e => if e.kind != .set then updateAt v e.role endedMotion else v)
        l.budget.consumers
      shedList := l.sequencer.queue.foldl (fun q e => if e.shed then q.filter fun x => x.role != e.role else q)
        l.budget.shedList } } := by
  have folded : ∀ (es : List QueueEntry) (m : Live), (es.foldl (fun l e =>
      let l := onActuator e.role (fun a =>
        { a with state := if a.state = .queued then .idle else a.state, pendingTarget := none }) l
      let l := if e.kind = .set then l else (report e.role endedMotion l).1
      if e.shed then dropShed e.role l else l) m) = { m with
        sequencer := { m.sequencer with
          actuators := es.foldl (fun v e => if true then updateAt v e.role emptied else v) m.sequencer.actuators }
        budget := { m.budget with
          consumers := es.foldl (fun v e => if e.kind != .set then updateAt v e.role endedMotion else v) m.budget.consumers
          shedList := es.foldl (fun q e => if e.shed then q.filter fun x => x.role != e.role else q) m.budget.shedList } } := by
    intro es
    induction es with
    | nil => exact fun m => rfl
    | cons e rest ih =>
      intro m
      simp only [List.foldl_cons]
      rw [ih]
      by_cases set : e.kind = .set <;> cases shed : e.shed <;>
        simp only [set, if_true, if_false, bne_self_eq_false, Bool.false_eq_true, bne_iff_ne, ne_eq, not_false_eq_true] <;> rfl
  exact folded _ _

/-- The off SET of a blower or stage, with its hold-off to a retry time that lies ahead (R122, R134). -/
def offEntry (l : Live) (r : Role) : QueueEntry :=
  { role := r, kind := .set, level := 0, urgent := true, holdOff := joinHold l r none, shed := false }

/-- The off SET of an actuator joins the queue: it has no work in flight and rests, or is UNCERTAIN or FAULTED (R134). -/
def takesOff (l : Live) (r : Role) : Bool :=
  (itemOf l r).isNone &&
    ((actuator l r).state == .idle || (actuator l r).state == .uncertain || (actuator l r).state == .faulted)

/-- The actuator of a role that is commanded off. -/
def commandedOff (l : Live) (r : Role) (a : Actuator) : Actuator :=
  if (itemOf l r).isSome then { a with pendingTarget := some offTarget }
  else if a.state = .idle then { a with state := .queued } else a

theorem tailInsert_urgent {e : QueueEntry} (urgent : e.urgent = true) {q : List QueueEntry}
    (all : ∀ x ∈ q, x.urgent = true) : tailInsert e q = q ++ [e] := by
  have first : (q.filter fun x => x.urgent) = q := List.filter_eq_self.2 all
  have second : (q.filter fun x => !x.urgent) = [] := List.filter_eq_nil_iff.2 fun x member => by simp [all x member]
  rw [tailInsert, if_pos urgent, first, second]

theorem filter_true {α : Type} (o : Option α) : (o.filter fun _ => true) = o := by
  cases o <;> rfl

theorem commandedOff_flies {l : Live} {r : Role} (flies : (itemOf l r).isSome = true) :
    commandedOff l r = fun a => { a with pendingTarget := some offTarget } :=
  funext fun _ => if_pos flies

theorem commandedOff_rests {l : Live} {r : Role} (rests : itemOf l r = none) :
    commandedOff l r = fun a => if a.state = .idle then { a with state := .queued } else a :=
  funext fun _ => if_neg (by simp [rests])

theorem commandedOff_eq (l : Live) (r : Role) (a : Actuator) : commandedOff l r a = { a with
    state := if itemOf l r = none ∧ a.state = .idle then .queued else a.state
    pendingTarget := if (itemOf l r).isSome then some offTarget else a.pendingTarget } := by
  cases flies : itemOf l r with
  | some it => simp [commandedOff, flies]
  | none =>
    rw [commandedOff_rests flies]
    by_cases idle : a.state = .idle <;> simp [idle]

theorem updateAt_fixed {α : Type} {n : Nat} {v : Vector α n} {i : Fin n} {f : α → α} (fixed : f (v.get i) = v.get i) :
    updateAt v i f = v := by
  rw [updateAt, fixed]
  refine Vector.ext fun j h => ?_
  by_cases here : i.val = j
  · subst here
    exact Vector.getElem_set_self h
  · exact Vector.getElem_set_ne _ h here

section CommandOff

variable {l : Live} {r : Role}

theorem joinTail_off (rests : itemOf l r = none) (urgent : ∀ x ∈ l.sequencer.queue, x.urgent = true)
    (apart : ∀ x ∈ l.sequencer.queue, x.role ≠ r) :
    joinTail (newEntry r .set offTarget false) l = { l with sequencer := { l.sequencer with
      queue := l.sequencer.queue ++ [offEntry l r]
      suspended := l.sequencer.suspended.filter fun m => m.role != r } } := by
  have others : (l.sequencer.queue.filter fun x => x.role != r) = l.sequencer.queue :=
    List.filter_eq_self.2 fun x member => by simp [apart x member]
  refine (joinTail_eq (e := newEntry r .set offTarget false) rests).trans ?_
  refine congrArg (fun q => ({ l with sequencer := { l.sequencer with
    queue := q, suspended := l.sequencer.suspended.filter fun m => m.role != r } } : Live)) ?_
  exact (congrArg (tailInsert (offEntry l r)) others).trans (tailInsert_urgent rfl urgent)

theorem commandOff_stands (rests : itemOf l r = none) (idle : (actuator l r).state ≠ .idle)
    (uncertain : (actuator l r).state ≠ .uncertain) (faulted : (actuator l r).state ≠ .faulted) :
    commandOff r l = l := by
  unfold commandOff
  rw [if_neg (by simp [rests])]
  cases state : (actuator l r).state <;> simp_all

/-- A blower or stage is commanded off in a queue of URGENT entries of other actuators: its off SET joins the end. -/
theorem commandOff_eq (urgent : ∀ x ∈ l.sequencer.queue, x.urgent = true) (apart : ∀ x ∈ l.sequencer.queue, x.role ≠ r) :
    commandOff r l = { l with sequencer := { l.sequencer with
      actuators := updateAt l.sequencer.actuators r (commandedOff l r)
      queue := l.sequencer.queue ++ if takesOff l r then [offEntry l r] else []
      suspended := l.sequencer.suspended.filter fun m => !(takesOff l r && m.role == r) } } := by
  cases flies : itemOf l r with
  | some it => simp [commandOff, takesOff, flies, setPending, onActuator, commandedOff_flies, filter_true]
  | none =>
    have joined := joinTail_off flies urgent apart
    have off : commandedOff l r (l.sequencer.actuators.get r) =
        if (actuator l r).state = .idle then { l.sequencer.actuators.get r with state := .queued }
        else l.sequencer.actuators.get r := by
      rw [commandedOff_rests flies]
      rfl
    by_cases idle : (actuator l r).state = .idle
    · rw [if_pos idle] at off
      simp [commandOff, takesOff, flies, idle, joined, setActuatorState, onActuator, updateAt, off, bne]
    · rw [if_neg idle] at off
      rw [updateAt_fixed off]
      by_cases other : (actuator l r).state = .uncertain ∨ (actuator l r).state = .faulted
      · rcases other with other | other <;> simp [commandOff, takesOff, flies, other, joined, bne]
      · obtain ⟨uncertain, faulted⟩ := not_or.1 other
        rw [commandOff_stands flies idle uncertain faulted]
        have stays : takesOff l r = false := by
          simp only [takesOff, Bool.and_eq_false_iff, Bool.or_eq_false_iff, beq_eq_false_iff_ne]
          exact .inr ⟨⟨idle, uncertain⟩, faulted⟩
        simp [stays, filter_true]

end CommandOff

/-- Blowers and stages are commanded off one after another: their off SETs join in the order of the roles. -/
theorem foldl_commandOff {rs : List Role} (distinct : rs.Nodup) {l : Live}
    (urgent : ∀ x ∈ l.sequencer.queue, x.urgent = true) (apart : ∀ r ∈ rs, ∀ x ∈ l.sequencer.queue, x.role ≠ r) :
    rs.foldl (fun l r => commandOff r l) l = { l with sequencer := { l.sequencer with
      actuators := rs.foldl (fun v r => updateAt v r (commandedOff l r)) l.sequencer.actuators
      queue := l.sequencer.queue ++ (rs.filter (takesOff l)).map (offEntry l)
      suspended := l.sequencer.suspended.filter fun m => !(rs.filter (takesOff l)).contains m.role } } := by
  induction rs generalizing l with
  | nil => simp [filter_true]
  | cons r rest ih =>
    obtain ⟨other, distinct⟩ := List.nodup_cons.1 distinct
    let m := commandOff r l
    have first : m = _ := commandOff_eq urgent (apart r List.mem_cons_self)
    have queue : m.sequencer.queue = l.sequencer.queue ++ if takesOff l r then [offEntry l r] else [] := by rw [first]
    have others (x : Role) (away : x ≠ r) : actuator m x = actuator l x := by
      rw [first]
      exact updateAt_other _ _ _ _ away
    have items (x : Role) : itemOf m x = itemOf l x := by
      rw [first]
      rfl
    have now : m.now = l.now := by rw [first]
    have takes (x : Role) (away : x ≠ r) : takesOff m x = takesOff l x := by rw [takesOff, others x away, items, takesOff]
    have entry (x : Role) (away : x ≠ r) : offEntry m x = offEntry l x := by
      rw [offEntry, offEntry, joinHold, joinHold, others x away, now]
    have away (x : Role) (member : x ∈ rest) : x ≠ r := fun same => other (same ▸ member)
    have joins : ∀ x ∈ (if takesOff l r then [offEntry l r] else []), x = offEntry l r := by
      intro x member
      split at member <;> simp_all
    have commanded : commandedOff m = commandedOff l := funext fun x => funext fun a => by
      rw [commandedOff, items, commandedOff]
    have filtered : rest.filter (takesOff m) = rest.filter (takesOff l) :=
      List.filter_congr fun x member => takes x (away x member)
    have mapped : (rest.filter (takesOff l)).map (offEntry m) = (rest.filter (takesOff l)).map (offEntry l) :=
      List.map_congr_left fun x member => entry x (away x ((List.mem_filter.1 member).1))
    have suspended : (m.sequencer.suspended.filter fun x => !(rest.filter (takesOff l)).contains x.role) =
        l.sequencer.suspended.filter fun x => !((r :: rest).filter (takesOff l)).contains x.role := by
      rw [first]
      cases off : takesOff l r
      · simp [off, filter_true]
      · cases l.sequencer.suspended with
        | none => rfl
        | some x => by_cases here : x.role = r <;> simp [Option.filter, off, here]
    rw [List.foldl_cons, ih distinct (l := m), commanded, filtered, mapped, suspended, queue]
    · rw [first, List.append_assoc]
      cases off : takesOff l r <;> simp [off]
    · intro x member
      rw [queue] at member
      rcases List.mem_append.1 member with old | new
      · exact urgent x old
      · rw [joins x new]
        rfl
    · intro y listed x member
      rw [queue] at member
      rcases List.mem_append.1 member with old | new
      · exact apart y (List.mem_cons_of_mem r listed) x old
      · rw [joins x new]
        exact (away y listed).symm

/-- The role of a blower or stage. -/
theorem mem_setRoles (r : Role) : r ∈ setRoles ↔ 12 ≤ r.val := by
  simp [setRoles, allRoles, positioned]

/-- The sequencer once the queue has been emptied and every blower and stage commanded off (R134). -/
def settledOff (l : Live) : Live := setRoles.foldl (fun l r => commandOff r l) (emptyQueue l)

theorem setRoles_nodup : setRoles.Nodup := List.Pairwise.filter _ (List.nodup_finRange 20)

theorem settledOff_eq (l : Live) : settledOff l = { emptyQueue l with sequencer := { l.sequencer with
    actuators := setRoles.foldl (fun v r => updateAt v r (commandedOff l r)) (emptyQueue l).sequencer.actuators
    queue := (setRoles.filter (takesOff (emptyQueue l))).map (offEntry (emptyQueue l))
    suspended := l.sequencer.suspended.filter fun m =>
      !(setRoles.filter (takesOff (emptyQueue l))).contains m.role } } := by
  have queue : (emptyQueue l).sequencer.queue = [] := by rw [emptyQueue_eq]
  have commanded : commandedOff (emptyQueue l) = commandedOff l := by
    rw [emptyQueue_eq]
    rfl
  refine (foldl_commandOff setRoles_nodup (by simp [queue]) (by simp [queue])).trans ?_
  rw [commanded, queue, List.nil_append]
  rw [emptyQueue_eq]

theorem get_emptyQueue (l : Live) (r : Role) : actuator (emptyQueue l) r =
    if l.sequencer.queue.any fun e => e.role == r then emptied (actuator l r) else actuator l r := by
  rw [emptyQueue_eq]
  refine (get_foldl_updateAt (fun _ => true) QueueEntry.role emptied_emptied l.sequencer.queue
    l.sequencer.actuators r).trans ?_
  simp only [Bool.true_and]
  rfl

theorem get_settledOff (l : Live) (r : Role) : actuator (settledOff l) r =
    if 12 ≤ r.val then commandedOff l r (actuator (emptyQueue l) r) else actuator (emptyQueue l) r := by
  rw [settledOff_eq]
  unfold actuator
  dsimp only
  rw [foldl_updateAt (commandedOff l) setRoles setRoles_nodup]
  simp [mem_setRoles]

theorem consumer_emptyQueue (l : Live) (r : Role) : (emptyQueue l).budget.consumers.get r =
    if l.sequencer.queue.any fun e => e.role == r && e.kind != .set then
      { l.budget.consumers.get r with commitment := 0 } else l.budget.consumers.get r := by
  rw [emptyQueue_eq]
  refine (get_foldl_updateAt (fun e : QueueEntry => e.kind != .set) QueueEntry.role (f := endedMotion) (fun _ => rfl)
    l.sequencer.queue l.budget.consumers r).trans ?_
  simp only [Bool.and_comm]
  rfl

theorem shedList_emptyQueue (l : Live) : (emptyQueue l).budget.shedList =
    l.budget.shedList.filter fun x => !(l.sequencer.queue.any fun e => e.shed && e.role == x.role) := by
  rw [emptyQueue_eq]
  refine (foldl_filter_if QueueEntry.shed (fun e (x : ShedEntry) => x.role != e.role) _ _).trans ?_
  simp only [bne, Bool.not_not]
  refine List.filter_congr fun x _ => ?_
  simp only [BEq.comm (a := x.role)]

theorem sequencerSettles_eq (img : Bank) (l : Live) : sequencerSettles img l =
    offerAfter img (queueHolds l) (if queueSheds l then testShed img (settledOff l) else settledOff l) := rfl

/-! ### Settles O53 -/

theorem startRun_eq (img : Bank) (l : Live) : startRun img l =
    let on := (presented img l.slots ignitionSlot).isTrue = true
    { l with
      part := { l.part with
        state := .run, ignitionTimer := if on then none else some (l.now + watchDelay img), ignitionOff := decide (¬on) }
      planner := { l.planner with timer := some (l.now + planPeriod img) }
      link := { l.link with
        rollcallTimer := some (l.now + 2000), probeTimer := some (l.now + 1000), wake := .none } } := by
  by_cases on : (presented img l.slots ignitionSlot).isTrue = true
  · refine (if_pos (by exact on)).trans ?_
    simp only [on, if_true, not_true, decide_false]
    rfl
  · refine (if_neg (by exact on)).trans ?_
    simp only [on]
    rfl

theorem ignitionNotice_run {img : Bank} {l : Live} (run : l.part.state = .run) :
    ignitionNotice img l = ignitionInRun img l := by
  simp only [ignitionNotice, run]

theorem ignitionNotice_settling {img : Bank} {l : Live} (settling : l.part.state = .settling) :
    ignitionNotice img l = if (seen img l ignitionSlot).isTrue then enterRun img l else l := by
  simp only [ignitionNotice, settling]

theorem ignitionNotice_else {img : Bank} {l : Live} (run : l.part.state ≠ .run) (settling : l.part.state ≠ .settling) :
    ignitionNotice img l = l := by
  unfold ignitionNotice
  split
  · exact absurd (by assumption) run
  · exact absurd (by assumption) settling
  · rfl

theorem linkWakes_running {l : Live} (up : l.link.state = .running) : linkWakes l = beginProbes l := by
  simp only [linkWakes, up]

theorem linkWakes_recovering {l : Live} (recovering : l.link.state = .recovering) :
    linkWakes l = l.onLinkBlock fun k => { k with attempting := true, wake := .awaitLink } := by
  simp only [linkWakes, recovering]

theorem linkWakes_failed {l : Live} (failed : l.link.state = .failed) : linkWakes l = l.onLinkBlock fun k =>
    { k with attempting := true, retryTimer := some (l.now + failedRetry), wake := .awaitLink } := by
  simp only [linkWakes, failed]

theorem sequencerParks_eq (l : Live) : sequencerParks l =
    let rested : Vector Actuator 20 := match l.sequencer.suspended with
      | none => l.sequencer.actuators
      | some m => l.sequencer.actuators.set m.role
          { l.sequencer.actuators.get m.role with state := .idle, position := m.position }
    { l with sequencer := { l.sequencer with
      actuators := rested.map fun a => { a with pendingTarget := none }, suspended := none } } := by
  have quiets (m : Live) : allRoles.foldl (fun l r => setPending r none l) m = { m with sequencer := { m.sequencer with
      actuators := m.sequencer.actuators.map fun a => { a with pendingTarget := none } } } := by
    refine (foldl_onActuator (List.nodup_finRange 20) (fun _ a => { a with pendingTarget := none }) m).trans ?_
    refine congrArg (fun v => ({ m with sequencer := { m.sequencer with actuators := v } } : Live)) ?_
    refine Vector.ext fun i h => ?_
    rw [Vector.getElem_ofFn, Vector.getElem_map, if_pos (by simp)]
    rfl
  unfold sequencerParks
  rw [quiets]
  cases suspended : l.sequencer.suspended with
  | none => simp [← suspended]
  | some m => rfl

theorem linkParks_eq (l : Live) : linkParks l =
    let ended := if l.link.state = .recovering then cancelAccess 12 l else l
    let series := if l.link.onLink.any (fun q => q.owner == .rollcall) then l.link.series else none
    { ended with link := { ended.link with
      requests := ended.link.requests.filter fun q => q.owner == .window
      rollcallTimer := none, probeTimer := none, attempting := false, delayTimer := none, retryTimer := none
      wake := .none, leftOver := series, series := none } } := by
  have kept : (if l.link.state = .recovering then cancelAccess rNoReply l else l).link.onLink = l.link.onLink ∧
      (if l.link.state = .recovering then cancelAccess rNoReply l else l).link.series = l.link.series := by
    split
    · unfold cancelAccess finishAccess
      split
      · split <;> exact ⟨rfl, rfl⟩
      · exact ⟨rfl, rfl⟩
    · exact ⟨rfl, rfl⟩
  obtain ⟨onLink, series⟩ := kept
  rw [← onLink, ← series]
  unfold linkParks
  simp only [withdraw, Live.onLinkBlock, bne, Bool.not_not]
  rfl

theorem afterProbes_eq (l : Live) : afterProbes l =
    let outstanding := (∃ q ∈ l.link.requests, q.owner = .probe) ∨ ∃ q, l.link.onLink = some q ∧ q.owner = .probe
    if l.part.state = .waking ∧ l.link.wake = .probing ∧ ¬outstanding then
      startSeries { l with link := { l.link with wake := .rolling } }
    else l := by
  have quiet : probeOutstanding l.link = false ↔
      ¬((∃ q ∈ l.link.requests, q.owner = .probe) ∨ ∃ q, l.link.onLink = some q ∧ q.owner = .probe) := by
    rw [probeOutstanding_eq_false]
    simp only [not_or, not_exists, not_and, ne_eq]
  exact ite_of_iff (and_congr_right fun _ => and_congr_right fun _ => quiet) rfl rfl

/-- What the off SETs of SETTLING leave: the obligation's figures for each actuator, its consumer and the queue. -/
theorem settledOff_spec (l : Live) :
    let u := l.sequencer
    let stands := fun r : Role => u.queue.any fun e => e.role == r
    let state := fun r : Role =>
      if stands r ∧ (u.actuators.get r).state = .queued then .idle else (u.actuators.get r).state
    let ordered := fun r : Role =>
      12 ≤ r.val ∧ itemOf l r = none ∧ (state r = .idle ∨ state r = .uncertain ∨ state r = .faulted)
    (∀ r : Role, actuator (emptyQueue l) r = { u.actuators.get r with
      state := state r, pendingTarget := if stands r then none else (u.actuators.get r).pendingTarget }) ∧
    ∀ r : Role, (r ∈ setRoles ∧ takesOff (emptyQueue l) r = true) ↔ ordered r := by
  intro u stands state ordered
  have emptied_eq (r : Role) : actuator (emptyQueue l) r = { u.actuators.get r with
      state := state r, pendingTarget := if stands r then none else (u.actuators.get r).pendingTarget } := by
    have known : actuator l r = u.actuators.get r := rfl
    rw [get_emptyQueue]
    by_cases here : stands r = true
    · refine (if_pos here).trans ?_
      simp only [emptied, known, here, true_and, if_true, state]
    · refine (if_neg here).trans ?_
      simp [known, here, state]
  refine ⟨emptied_eq, fun r => ?_⟩
  have item : itemOf (emptyQueue l) r = itemOf l r := by
    rw [emptyQueue_eq]
    rfl
  simp only [mem_setRoles, takesOff, item, emptied_eq, Bool.and_eq_true, Bool.or_eq_true, Option.isNone_iff_eq_none,
    beq_iff_eq, or_assoc, ordered]

/-- Settles O53. -/
theorem entriesToThePartStatesActOnTheBlocks : Obligations.EntriesToThePartStatesActOnTheBlocks := by
  refine ⟨fun img l => ?ignition, fun l => ?watch, fun img l => ?waking, fun l => ?probes, fun img l => ?settling⟩
  case ignition =>
    intro on p later started
    refine ⟨fun run => ?_, fun settling => ?_, fun run settling => ?_, congrArg (issueTargets img) (startRun_eq img l)⟩
    · rw [notify_ignitionSlot, ignitionNotice_run run]
      by_cases lit : on
      · rw [if_pos lit]
        exact if_pos lit
      · rw [if_neg lit]
        refine (if_neg lit).trans ?_
        by_cases off : l.part.ignitionOff = true
        · rw [if_pos off, if_pos (by exact off)]
        · rw [if_neg off, if_neg (by exact off)]
          rfl
    · rw [notify_ignitionSlot, ignitionNotice_settling settling]
      rfl
    · rw [notify_ignitionSlot, ignitionNotice_else run settling]
  case watch =>
    intro u resting parked k scanner idle ended series
    have parks : sequencerParks { l with
        part := { l.part with state := .watch }
        port := { l.port with rxQueue := [] }
        classifier := l.classifier.parks
        planner := plannerParks l.planner
        events := { l.events with statusTimer := none } } = idle := by
      rw [sequencerParks_eq]
      simp only [idle, parked]
      cases l.sequencer.suspended <;> rfl
    unfold enterWatch
    dsimp only
    rw [parks, linkParks_eq]
  case waking =>
    intro scanner woken m bound probing
    have known : (if l.events.owed = true ∧ l.events.spacingHold.isNone = true then placeStatusE woken else woken) = m :=
      ite_of_iff (and_congr_right fun _ => Option.isNone_iff_eq_none) rfl rfl
    have link : m.link = l.link := by
      simp only [m]
      split <;> rfl
    have wakes : enterWaking img l = linkWakes m := congrArg linkWakes known
    have now : m.now = l.now := by
      simp only [m]
      split <;> rfl
    have state : m.link.state = l.link.state := congrArg _ link
    rw [wakes, ← now]
    clear_value m
    cases up : l.link.state
    · have addresses : Link.addressesIn { m.link with wake := .probing } .bound = bound := by
        rw [link]
        rfl
      refine (linkWakes_running (state.trans up)).trans ?_
      exact congrArg (fun as => afterProbes (as.foldl (fun x a => placeProbe a x) probing)) addresses
    · exact linkWakes_recovering (state.trans up)
    · exact linkWakes_failed (state.trans up)
  case probes =>
    intro outstanding rolling begun series
    rw [afterProbes_eq]
    refine ite_of_iff Iff.rfl ?_ rfl
    by_cases running : l.link.series = none
    · rw [startSeries_begins (by exact running)]
      exact (if_neg (not_not_intro running)).symm
    · rw [startSeries_running (by exact running)]
      exact (if_pos running).symm
  case settling =>
    intro u stands moves state ordered hold off holds sheds shed
    have emptied_eq : ∀ r : Role, actuator (emptyQueue l) r = { u.actuators.get r with
        state := state r, pendingTarget := if stands r then none else (u.actuators.get r).pendingTarget } :=
      (settledOff_spec l).1
    have takes : ∀ r : Role, (r ∈ setRoles ∧ takesOff (emptyQueue l) r = true) ↔ ordered r := (settledOff_spec l).2
    refine ⟨(settledOff l).sequencer.actuators, (emptyQueue l).budget.consumers, fun r => ?_, ?_⟩
    · intro a pending now
      refine ⟨?_, ?_⟩
      · have target : (settledOff l).sequencer.actuators.get r = _ := get_settledOff l r
        rw [target, emptied_eq r]
        have idle : (ordered r ∧ state r = .idle) ↔ 12 ≤ r.val ∧ itemOf l r = none ∧ state r = .idle :=
          ⟨fun ⟨⟨high, rests, _⟩, idle⟩ => ⟨high, rests, idle⟩, fun ⟨high, rests, idle⟩ => ⟨⟨high, rests, .inl idle⟩, idle⟩⟩
        by_cases high : 12 ≤ r.val
        · rw [if_pos high, commandedOff_eq]
          have queued : now = if itemOf l r = none ∧ state r = .idle then .queued else state r :=
            ite_of_iff (idle.trans (and_iff_right high)) rfl rfl
          have waits : pending = if (itemOf l r).isSome then some offTarget
              else if stands r then none else a.pendingTarget :=
            ite_of_iff ((and_iff_right high).trans Option.isSome_iff_ne_none.symm) rfl rfl
          rw [queued, waits]
        · rw [if_neg high]
          have queued : now = state r := if_neg fun both => high (idle.1 both).1
          have waits : pending = if stands r then none else a.pendingTarget := if_neg fun both => high both.1
          rw [queued, waits]
      · intro c
        exact consumer_emptyQueue l r
    · intro m tested
      have same : settledOff l = m := by
        have listed (r : Role) : (setRoles.filter (takesOff (emptyQueue l))).contains r = decide (ordered r) := by
          refine Bool.eq_iff_iff.2 ?_
          rw [List.contains_iff_mem, List.mem_filter, takes r, decide_eq_true_iff]
        have entries : (setRoles.filter (takesOff (emptyQueue l))).map (offEntry (emptyQueue l)) =
            ((List.finRange 20).filter fun r => decide (ordered r)).map off := by
          have roles : setRoles.filter (takesOff (emptyQueue l)) = (List.finRange 20).filter fun r => decide (ordered r) := by
            refine (List.filter_filter ..).trans (List.filter_congr fun r _ => Bool.eq_iff_iff.2 ?_)
            rw [decide_eq_true_iff, ← takes r, mem_setRoles]
            simp [positioned, and_comm]
          rw [roles]
          refine List.map_congr_left fun r _ => ?_
          have held : joinHold (emptyQueue l) r none = hold r := by
            rw [joinHold, emptied_eq, emptyQueue_eq] <;> rfl
          rw [offEntry, held]
        have actuators : (settledOff l).sequencer.actuators =
            setRoles.foldl (fun v r => updateAt v r (commandedOff l r)) (emptyQueue l).sequencer.actuators := by
          rw [settledOff_eq]
        have rest : emptyQueue l = { l with
            sequencer := (emptyQueue l).sequencer
            budget := { l.budget with consumers := (emptyQueue l).budget.consumers, shedList := shed } } := by
          rw [← show (emptyQueue l).budget.shedList = shed from shedList_emptyQueue l, emptyQueue_eq]
        simp only [m, actuators]
        rw [settledOff_eq, entries]
        simp only [listed]
        exact congrFun (congrArg (fun (e : Live) (q : Sequencer) => ({ e with sequencer := q } : Live)) rest) _
      rw [sequencerSettles_eq, same]
      rfl

end Sys2Proof.Machine


/-! ACTIVATE and the new image in the blocks (R49, R71, R96, R110, R136, R164, R165). -/

namespace Sys2Proof.Machine

/-! ### What an offer leaves to an actuator without work (R120) -/

/-- An actuator as it stands, with no entry in the queue and no suspended move: no offer touches it. -/
structure Aside (r : Role) (a : Actuator) (l : Live) : Prop where
  same : actuator l r = a
  queue : ∀ e ∈ l.sequencer.queue, e.role ≠ r
  suspended : ∀ m, l.sequencer.suspended = some m → m.role ≠ r

namespace Aside

variable {r : Role} {a : Actuator} {l : Live}

theorem of_sequencer {m : Live} (h : Aside r a l) (same : m.sequencer = l.sequencer) : Aside r a m :=
  ⟨by rw [← h.same, actuator, same]; rfl, by rw [same]; exact h.queue, by rw [same]; exact h.suspended⟩

theorem onActuator (h : Aside r a l) {x : Role} (other : x ≠ r) (f : Actuator → Actuator) :
    Aside r a (Machine.onActuator x f l) :=
  ⟨(updateAt_other _ x r f other.symm).trans h.same, h.queue, h.suspended⟩

theorem leaveWork (h : Aside r a l) (x : Role) : Aside r a (Machine.leaveWork x l) := by
  rw [leaveWork_eq]
  exact ⟨h.same, fun e member => h.queue e ((List.mem_filter.1 member).1),
    fun m member => h.suspended m (Option.filter_eq_some_iff.1 member).1⟩

theorem startItem (h : Aside r a l) (img : Bank) {x : Role} (other : x ≠ r) (kind : WorkKind) (level asked : Nat)
    (urgent shed : Bool) (address : Nat) :
    Aside r a (Machine.startItem img x kind level asked urgent shed address l) := by
  have left := h.leaveWork x
  unfold Machine.startItem
  refine Aside.of_sequencer ?_ (placeRequest_sequencer ..)
  refine Aside.onActuator ?_ other _
  exact ⟨left.same, left.queue, left.suspended⟩

theorem haltItem (h : Aside r a l) (img : Bank) (why : HaltReason) (it : Item) :
    Aside r a (Machine.haltItem img why it l) := by
  have halted : Aside r a (withdrawRole it.role
      (updateItem it.role (fun i => { i with phase := .halting why, poll := none, deadline := none }) l)) :=
    ⟨h.same, h.queue, h.suspended⟩
  exact Aside.of_sequencer halted (placeRequest_sequencer ..)

theorem putEntry (h : Aside r a l) (img : Bank) {e : QueueEntry} (other : e.role ≠ r) :
    Aside r a (Machine.putEntry img e l).1 := by
  unfold Machine.putEntry
  split
  · exact h
  · split
    · have left := (h.onActuator other fun a => { a with retryTime := some (l.now + pollInterval img) }).leaveWork e.role
      exact ⟨left.same, fun x member => (List.mem_cons.1 ((headInsert_perm _ _).mem_iff.1 member)).elim
        (fun here => here ▸ other) (left.queue x), left.suspended⟩
    · split
      · dsimp only
        split
        · split <;> exact startItem (by exact h.of_sequencer rfl) img other ..
        · exact startItem (by exact h.of_sequencer (setCapped_sequencer ..)) img other ..
        · exact h.of_sequencer (setCapped_sequencer ..)
        · exact h.of_sequencer rfl
      · dsimp only
        split
        · exact startItem (by exact h.of_sequencer rfl) img other ..
        · exact h.of_sequencer rfl

theorem putEntries (img : Bank) (skip : QueueEntry → Bool) : ∀ (es : List QueueEntry), (∀ e ∈ es, e.role ≠ r) →
    ∀ {l : Live}, Aside r a l → Aside r a (Machine.putEntries img skip es l).1
  | [], _, _, h => h
  | e :: rest, others, _, h => by
    have behind : ∀ x ∈ rest, x.role ≠ r := fun x member => others x (List.mem_cons_of_mem e member)
    unfold Machine.putEntries
    split
    · exact putEntries img skip rest behind h
    · exact putEntries img skip rest behind (h.putEntry img (others e List.mem_cons_self))

theorem trySuspend (h : Aside r a l) (img : Bank) : Aside r a (Machine.trySuspend img l) := by
  unfold Machine.trySuspend
  split
  · dsimp only
    split
    · exact ⟨h.same, h.queue, h.suspended⟩
    · split
      · exact ⟨h.same, h.queue, h.suspended⟩
      · exact haltItem (by exact ⟨h.same, h.queue, h.suspended⟩) ..
  · exact h

theorem offerResume (h : Aside r a l) (img : Bank) : Aside r a (Machine.offerResume img l).1 := by
  unfold Machine.offerResume
  split
  · exact h
  · rename_i m suspended
    have other : m.role ≠ r := h.suspended m suspended
    split
    · exact h
    · dsimp only
      split
      · refine startItem ?_ img other ..
        have resumed : Aside r a (setSuspended none { l with budget := (askMotion img m.role l.budget).2 }) :=
          ⟨h.same, h.queue, nofun⟩
        exact resumed.onActuator other _
      · exact h.of_sequencer rfl

theorem offer (h : Aside r a l) (img : Bank) : Aside r a (Machine.offer img l) := by
  have put (m : Live) (aside : Aside r a m) (skip test : QueueEntry → Bool) :
      Aside r a (Machine.putEntries img skip (m.sequencer.queue.filter test) m).1 :=
    putEntries img skip _ (fun e member => aside.queue e ((List.mem_filter.1 member).1)) aside
  unfold Machine.offer offerNow
  dsimp only
  split
  · split
    · exact (put l h _ _).trySuspend img
    · refine put _ ?_ _ _
      split
      · exact (put l h _ _).offerResume img
      · exact put l h _ _
  · exact h

theorem roomNotice (h : Aside r a l) (img : Bank) : Aside r a (Machine.roomNotice img l) :=
  offer (by exact ⟨h.same, h.queue, h.suspended⟩) img

end Aside

/-! ### The sequencer takes a new image (R136) -/

/-- What a new binding makes of a role's actuator (R136). -/
def reborn (st : ActuatorState) (a : Actuator) : Actuator :=
  { a with state := st, overruns := 0, fault := none, guardTime := none }

/-- A role with a changed binding: its work goes, its actuator takes its node's state, and the CAPPED flag of a blower that
has become ABSENT clears. -/
def takesBinding (st : Role → ActuatorState) (l : Live) (r : Role) : Live :=
  let l := onActuator r (reborn (st r)) (abandon r l)
  if isBlower r ∧ st r = .absent then clearCapped (zoneOf r) l else l

theorem activatedState_of_directory {img : Bank} {l m : Live} (same : m.link.directory = l.link.directory) :
    activatedState img m = activatedState img l := by
  funext r
  simp only [activatedState, nodeStateOf, Link.nodeOf, same]

theorem takesBinding_directory (st : Role → ActuatorState) (r : Role) (l : Live) :
    (takesBinding st l r).link.directory = l.link.directory := by
  have kept : (abandon r l).link.directory = l.link.directory := outer_directory (outer_abandon r l)
  unfold takesBinding
  dsimp only
  split <;> exact kept

/-- The states that the roles take are those of their nodes at the activation: no role's change touches the directory. -/
theorem foldl_takesBinding {img : Bank} {l : Live} : ∀ (roles : List Role) (m : Live),
    m.link.directory = l.link.directory → roles.foldl (fun l r =>
      let st := activatedState img l r
      let l := onActuator r (fun a => { a with state := st, overruns := 0, fault := none, guardTime := none }) (abandon r l)
      if isBlower r ∧ st = .absent then clearCapped (zoneOf r) l else l) m =
    roles.foldl (takesBinding (activatedState img l)) m
  | [], _, _ => rfl
  | r :: rest, m, same => by
    rw [List.foldl_cons, List.foldl_cons]
    dsimp only
    rw [activatedState_of_directory same]
    exact foldl_takesBinding rest _ ((takesBinding_directory ..).trans same)

/-- The CAPPED flags beside the roles' other changes. -/
theorem foldl_takesBinding_capped (st : Role → ActuatorState) (roles : List Role) (l : Live) :
    roles.foldl (takesBinding st) l =
      let cut := roles.foldl (fun l r => onActuator r (reborn (st r)) (abandon r l)) l
      { cut with budget := { l.budget with capped := roles.foldl (fun v r =>
        if decide (isBlower r ∧ st r = .absent) then updateAt v (zoneOf r) fun _ => false else v) l.budget.capped } } := by
  have budget (r : Role) (m : Live) (b : Budget) : onActuator r (reborn (st r)) (abandon r { m with budget := b }) =
      { onActuator r (reborn (st r)) (abandon r m) with budget := b } := by
    rw [abandon, abandon, leaveWork_eq, leaveWork_eq]
    rfl
  have moved : ∀ (rs : List Role) (m : Live) (b : Budget),
      rs.foldl (fun l r => onActuator r (reborn (st r)) (abandon r l)) { m with budget := b } =
        { rs.foldl (fun l r => onActuator r (reborn (st r)) (abandon r l)) m with budget := b } := by
    intro rs
    induction rs with
    | nil => exact fun m b => rfl
    | cons r rest ih =>
      intro m b
      rw [List.foldl_cons, budget, ih]
      rfl
  induction roles generalizing l with
  | nil => rfl
  | cons r rest ih =>
    have own : (onActuator r (reborn (st r)) (abandon r l)).budget = l.budget := by
      rw [abandon, leaveWork_eq]
      rfl
    simp only [List.foldl_cons]
    rw [ih, takesBinding]
    dsimp only
    by_cases clears : isBlower r = true ∧ st r = .absent
    · rw [if_pos clears, if_pos (decide_eq_true clears), clearCapped, moved, own]
      rfl
    · rw [if_neg clears, if_neg (by simpa using clears), own]

theorem zoneOf_eq_iff (r : Role) (z : Fin 4) : (isBlower r = true ∧ zoneOf r = z) ↔ r = blowerRole z := by
  simp only [isBlower_iff, zoneOf, blowerRole, Fin.ext_iff]
  omega

/-- The CAPPED flags after the roles' changes. -/
theorem capped_takesBinding (st : Role → ActuatorState) (roles : List Role) (v : Vector Bool 4) :
    (roles.foldl (fun v r =>
      if decide (isBlower r ∧ st r = .absent) then updateAt v (zoneOf r) fun _ => false else v) v) =
    Vector.ofFn fun z =>
      v.get z && !(roles.contains (blowerRole z) && decide (st (blowerRole z) = .absent)) := by
  refine Vector.ext fun i h => ?_
  have place := get_foldl_updateAt (fun r => decide (isBlower r ∧ st r = .absent)) zoneOf
    (f := fun _ => false) (fun _ => rfl) roles v ⟨i, h⟩
  rw [Vector.getElem_ofFn]
  refine Eq.trans place ?_
  have named : (roles.any fun r => decide (isBlower r ∧ st r = .absent) && zoneOf r == ⟨i, h⟩) =
      (roles.contains (blowerRole ⟨i, h⟩) && decide (st (blowerRole ⟨i, h⟩) = .absent)) := by
    refine Bool.eq_iff_iff.2 ?_
    simp only [List.any_eq_true, Bool.and_eq_true, decide_eq_true_iff, beq_iff_eq, List.contains_iff_mem]
    constructor
    · rintro ⟨r, member, ⟨blower, absent⟩, zone⟩
      obtain rfl := (zoneOf_eq_iff r _).1 ⟨blower, zone⟩
      exact ⟨member, absent⟩
    · rintro ⟨member, absent⟩
      obtain ⟨blower, zone⟩ := (zoneOf_eq_iff _ ⟨i, h⟩).2 rfl
      exact ⟨_, member, ⟨blower, absent⟩, zone⟩
  rw [named]
  cases (roles.contains (blowerRole ⟨i, h⟩) && decide (st (blowerRole ⟨i, h⟩) = .absent)) <;> simp

theorem unknownLevel_eq (c : Consumer) : unknownLevel c = { accepted := 0, transit := none, commitment := 0 } := rfl

/-- Roles with changed bindings: their work, its waiting requests and their pending targets go, their actuators take their
nodes' states, and the CAPPED flags of blowers that have become ABSENT clear. -/
def withBindings (st : Role → ActuatorState) (roles : List Role) (l : Live) : Live :=
  { l with
    sequencer := { l.sequencer with
      actuators := Vector.ofFn fun r =>
        if roles.contains r then reborn (st r) { l.sequencer.actuators.get r with pendingTarget := none }
        else l.sequencer.actuators.get r
      queue := l.sequencer.queue.filter fun x => !roles.contains x.role
      inFlight := l.sequencer.inFlight.filter fun x => !roles.contains x.role
      suspended := l.sequencer.suspended.filter fun x => !roles.contains x.role }
    link := { l.link with requests := l.link.requests.filter fun x => !roles.any fun r => x.owner.isItemOf r }
    budget := { l.budget with
      capped := Vector.ofFn fun z =>
        l.budget.capped.get z && !(roles.contains (blowerRole z) && decide (st (blowerRole z) = .absent)) } }

theorem foldl_takesBinding_eq (st : Role → ActuatorState) {roles : List Role} (distinct : roles.Nodup) (l : Live) :
    roles.foldl (takesBinding st) l = withBindings st roles l := by
  rw [foldl_takesBinding_capped]
  simp only [foldl_abandon distinct, capped_takesBinding]
  rfl

/-- The budget's records of roles whose shed entries have ended. -/
def withRecords (f : Role → Consumer → Consumer) (roles : List Role) (l : Live) : Live :=
  { l with budget := { l.budget with
    consumers := Vector.ofFn fun r =>
      if roles.contains r then f r (l.budget.consumers.get r) else l.budget.consumers.get r
    shedList := l.budget.shedList.filter fun x => !roles.contains x.role } }

theorem changedRoles_nodup (old img : Bank) : (changedRoles old img).Nodup := List.Pairwise.filter _ (List.nodup_finRange 20)

theorem sequencerActivates_eq (old img : Bank) (l : Live) : sequencerActivates old img l =
    let roles := changedRoles old img
    let cut := withRecords (activatedConsumer img l) roles (withBindings (activatedState img l) roles l)
    let offered := if roles.isEmpty then cut
      else offerAfter img (releases (activatedConsumer img l) roles l.budget) cut
    (roles.filter fun r => (actuator offered r).state == .uncertain).foldl (fun l r => serveKept img r l) offered := by
  have distinct := changedRoles_nodup old img
  have consumer : activatedConsumer img (withBindings (activatedState img l) (changedRoles old img) l) =
      activatedConsumer img l := rfl
  have heard (m : Live) : reportAll (activatedConsumer img l) (changedRoles old img) (dropAllShed (changedRoles old img) m) =
      (withRecords (activatedConsumer img l) (changedRoles old img) m,
        releases (activatedConsumer img l) (changedRoles old img) m.budget) := by
    rw [reportAll_eq _ _ distinct, dropAllShed_eq]
    rfl
  unfold sequencerActivates
  simp only [foldl_takesBinding (changedRoles old img) l rfl, foldl_takesBinding_eq _ distinct, consumer, heard]
  rfl

/-- An actuator whose work the activation has removed stands aside in the offer that follows. -/
theorem aside_rebound {roles : List Role} {r : Role} (member : r ∈ roles) (f : Role → Consumer → Consumer)
    (st : Role → ActuatorState) (l : Live) :
    Aside r (reborn (st r) { l.sequencer.actuators.get r with pendingTarget := none })
      (withRecords f roles (withBindings st roles l)) := by
  have gone (x : Role) (kept : (!roles.contains x) = true) : x ≠ r := by
    rintro rfl
    simp [member] at kept
  refine ⟨?_, fun e listed => gone e.role ?_, fun m listed => gone m.role ?_⟩
  · simp [actuator, withRecords, withBindings, member]
  · exact (List.mem_filter.1 listed).2
  · exact (Option.filter_eq_some_iff.1 listed).2

theorem uncertain_after_offer {img : Bank} {roles : List Role} (f : Role → Consumer → Consumer)
    (st : Role → ActuatorState) (released : Bool) (l : Live) :
    let cut := withRecords f roles (withBindings st roles l)
    let offered := if roles.isEmpty then cut else offerAfter img released cut
    (roles.filter fun r => (actuator offered r).state == .uncertain) = roles.filter fun r => decide (st r = .uncertain) := by
  intro cut offered
  refine List.filter_congr fun r member => ?_
  have aside : Aside r _ cut := aside_rebound member f st l
  have state : (actuator offered r).state = st r := by
    have after : Aside r (reborn (st r) { l.sequencer.actuators.get r with pendingTarget := none }) offered := by
      simp only [offered, offerAfter]
      split
      · exact aside
      · split
        · exact aside.roomNotice img
        · exact aside.offer img
    rw [after.same]
    rfl
  rw [state]
  exact Bool.beq_eq_decide_eq ..

/-! ### The slots (R49) -/

theorem slotsActivate_slots (old img : Bank) (l : Live) (n : Fin 32) : (slotsActivate old img l).slots.get n =
    if sameBytes old img (slotDefAddress n.val) 16 then l.slots.get n
    else Slot.returned (slotDef img n) (l.slots.get n) := by
  have folded : ∀ (ns : List (Fin 32)) (m : Live), (ns.foldl (fun l n =>
      notifyUnlessForced img n (onSlot n (Slot.returned (slotDef img n)) l)) m).slots =
      ns.foldl (fun v n => updateAt v n (Slot.returned (slotDef img n))) m.slots := by
    intro ns
    induction ns with
    | nil => exact fun m => rfl
    | cons n rest ih =>
      intro m
      rw [List.foldl_cons, ih, core_slots (core_notifyUnlessForced ..)]
      rfl
  have distinct : (allSlots.filter fun n => !sameBytes old img (slotDefAddress n.val) 16).Nodup :=
    List.Pairwise.filter _ (List.nodup_finRange 32)
  rw [slotsActivate, folded, foldl_updateAt (fun n => Slot.returned (slotDef img n)) _ distinct]
  cases same : sameBytes old img (slotDefAddress n.val) 16 <;> simp [allSlots, same]

/-! ### The part state at an activation -/

theorem slotsActivate_staysOrRuns (old img : Bank) (l : Live) : StaysOrRuns l (slotsActivate old img l) := by
  have folded : ∀ (ns : List (Fin 32)) (m : Live), StaysOrRuns m (ns.foldl (fun l n =>
      notifyUnlessForced img n (onSlot n (Slot.returned (slotDef img n)) l)) m) := by
    intro ns
    induction ns with
    | nil => exact fun m => ⟨.inl rfl, rfl⟩
    | cons n rest ih =>
      intro m
      have returned : StaysOrRuns m (onSlot n (Slot.returned (slotDef img n)) m) := ⟨.inl rfl, rfl⟩
      exact (returned.trans (notifyUnlessForced_staysOrRuns img n _)).trans (ih _)
  exact folded _ l

theorem StaysOrRuns.of_outer {l m : Live} (h : m.outer = l.outer) : StaysOrRuns l m :=
  ⟨.inl (congrArg Part.state (outer_part h)), outer_linkState h⟩

theorem handOver_staysOrRuns (old img : Bank) (l : Live) : StaysOrRuns l (handOver old img l) := by
  refine (slotsActivate_staysOrRuns old img l).trans ?_
  unfold handOver
  generalize slotsActivate old img l = m
  let nodes := m.onLinkBlock (directoryActivates img)
  have directory : StaysOrRuns m nodes := ⟨.inl rfl, rfl⟩
  have sequencer : StaysOrRuns nodes (sequencerActivates old img nodes) := .of_outer (outer_sequencerActivates ..)
  have budget (x : Live) : StaysOrRuns x (budgetActivates img x) := by
    refine .of_outer ?_
    unfold budgetActivates
    dsimp only
    rw [outer_testShed]
    split
    · rw [outer_roomNotice]
      rfl
    · rfl
  have air (x : Live) : StaysOrRuns x (airActivates img { x with planner := plannerActivates old img x.planner }) := by
    have issued : StaysOrRuns { x with air := _, planner := plannerActivates old img x.planner }
      (airActivates img { x with planner := plannerActivates old img x.planner }) := .of_outer (outer_issueTargets ..)
    exact issued
  exact ((directory.trans (sequencer.trans (budget _))).trans (air _)).trans (.of_outer (outer_latch ..))

/-! ### ACTIVATE (R164) -/

theorem activateBody_settled {s : State} (takes : s.takes = true) (check : Nat) :
    ¬((activateBody check s).live.part.state = .waking ∧ (activateBody check s).live.link.state = .failed) := by
  obtain ⟨-, -, -, -, settled⟩ := s.takes_iff.mp takes
  unfold activateBody
  split
  · exact settled
  · split
    · exact settled
    · split
      · exact settled
      · split
        · exact settled
        · rintro ⟨waking, failed⟩
          have waking : (settleCheck (handOver s.active s.loading s.live)).part.state = .waking := waking
          have failed : (settleCheck (handOver s.active s.loading s.live)).link.state = .failed := failed
          obtain ⟨part, link⟩ := handOver_staysOrRuns s.active s.loading s.live
          have same := settleCheck_of_waking waking
          rw [same] at waking failed
          rw [waking] at part
          exact settled ⟨(part.resolve_right (by decide)).symm, link ▸ failed⟩

theorem directoryActivates_eq (img : Bank) (k : Link) : directoryActivates img k = { k with
    directory := k.directory.map fun n => if n.state = .bound ∨ n.state = .spare
      then { n with state := if namesSerial img n.serial then .bound else .spare } else n } := by
  refine congrArg (fun d => { k with directory := d }) (List.map_congr_left fun n _ => ?_)
  cases state : n.state <;> simp [knownState]

/-- Settles O47. -/
theorem activateTestsThenReplaces : Obligations.ActivateTestsThenReplaces := by
  refine ⟨fun s check takes => ?tests, fun old img l => ?handOver, fun old img l => ?sequencer,
    fun old img p l => ?blocks⟩
  case tests =>
    intro parked sum
    refine congrArg _ ((request_of_settled takes 0x25 rfl (activateBody_settled takes check)).trans (congrArg _ ?_))
    have parks : (!interlock s.active s.live) = true ↔ ¬parked := by
      rw [Bool.not_eq_true', ← Bool.not_eq_true, interlock_iff]
    unfold activateBody
    refine ite_of_iff Iff.rfl rfl (ite_of_iff parks rfl (ite_of_iff Iff.rfl rfl ?_))
    cases firstInvalid s.loading <;> rfl
  case handOver =>
    intro first nodes moved worked budget
    refine ⟨?_, fun n => slotsActivate_slots old img l n⟩
    have known : first.onLinkBlock (directoryActivates img) = nodes :=
      congrArg (fun k => { first with link := k }) (directoryActivates_eq img first.link)
    exact congrArg (fun m => latch kImageActivated (bankCheck img) (airActivates img
      { budgetActivates img (sequencerActivates old img m) with
        planner := plannerActivates old img (budgetActivates img (sequencerActivates old img m)).planner })) known
  case sequencer =>
    intro u used roles gone state record cut released offered kept
    have cut_eq : withRecords (activatedConsumer img l) roles (withBindings (activatedState img l) roles l) = cut := rfl
    have frees : releases (activatedConsumer img l) roles l.budget = true ↔ released := decide_eq_true_iff
    have offered_eq : (if roles.isEmpty then cut
        else offerAfter img (releases (activatedConsumer img l) roles l.budget) cut) = offered :=
      ite_of_iff List.isEmpty_iff rfl (ite_of_iff frees rfl rfl)
    have serves : (fun l r => serveKept img r l) = kept := funext fun m => funext fun r => serveKept_eq img r m
    have activated := sequencerActivates_eq old img l
    have uncertain := uncertain_after_offer (img := img) (roles := roles) (activatedConsumer img l) (activatedState img l)
      (releases (activatedConsumer img l) roles l.budget) l
    dsimp only at activated uncertain
    rw [show changedRoles old img = roles from rfl, cut_eq] at activated
    rw [cut_eq] at uncertain
    rw [activated, uncertain, serves, offered_eq]
    rfl
  case blocks =>
    intro battery band percent a out f filter new
    refine ⟨?_, ?_, ?_⟩
    · have bound (r : Role) : isBound img r = decide ((binding img r).serial ≠ 0) := by
        simp [isBound, bne, Bool.beq_eq_decide_eq]
      simp only [plannerActivates, bound]
      rfl
    · have percent_eq : band.percent = percent := by
        simp only [percent]
        cases band <;> rfl
      exact (workOutAvail_eq img l).trans (congrArg (fun n => ({ l with budget :=
        { l.budget with band := band, avail := baseBudget img * n / 100 } } : Live)) percent_eq)
    · have targets : Air.withTargets img { l.air with fraction := f } = new := by
        simp only [Air.withTargets, new]
        cases mode : l.air.mode <;> simp [modeTargets, mode, filter, a]
      have fraction : (if l.air.mode = .fresh then freshFraction img l.air.defrostCopy (seen img l outTempSlot)
          else l.air.fraction) = f := by
        simp only [f, ite_not]
        rfl
      unfold airActivates
      dsimp only
      rw [fraction, targets]

end Sys2Proof.Machine


/-! The validation of an image (R30, R48, R70, R95, R110, R114, R164). -/

namespace Sys2Proof.Machine

/-! ### The first of a sorted list that fails -/

/-- One page and record before another (R164). -/
def recordBefore (a b : Nat × Nat) : Prop := a.1 < b.1 ∨ (a.1 = b.1 ∧ a.2 < b.2)

theorem find_first_failing {L : List ((Nat × Nat) × (Unit → Bool))} (sorted : L.Pairwise fun a b => recordBefore a.1 b.1)
    (k : Nat × Nat) : (L.find? fun c => !c.2 ()).map (·.1) = some k ↔
      (∃ c ∈ L, c.1 = k ∧ c.2 () = false) ∧ ∀ c ∈ L, recordBefore c.1 k → c.2 () = true := by
  induction L with
  | nil => simp
  | cons c rest ih =>
    obtain ⟨first, sorted⟩ := List.pairwise_cons.1 sorted
    cases passes : c.2 () with
    | true =>
      rw [List.find?_cons_of_neg (by simp [passes]), ih sorted]
      simp [passes]
    | false =>
      rw [List.find?_cons_of_pos (by simp [passes]), Option.map_some, Option.some.injEq]
      constructor
      · rintro rfl
        refine ⟨⟨c, List.mem_cons_self, rfl, passes⟩, fun d member before => ?_⟩
        rcases List.mem_cons.1 member with rfl | later
        · simp [recordBefore] at before
        · have after := first d later
          simp only [recordBefore] at before after
          omega
      · rintro ⟨⟨d, member, rfl, -⟩, passing⟩
        rcases List.mem_cons.1 member with rfl | later
        · rfl
        · rw [passing c List.mem_cons_self (first d later)] at passes
          cases passes

theorem find_none_failing (L : List ((Nat × Nat) × (Unit → Bool))) :
    (L.find? fun c => !c.2 ()).map (·.1) = none ↔ ∀ c ∈ L, c.2 () = true := by
  simp

theorem recordChecks_sorted (img : Bank) : (recordChecks img).Pairwise fun a b => recordBefore a.1 b.1 := by
  have fins {n : Nat} (f : Fin n → (Nat × Nat) × (Unit → Bool))
      (rises : ∀ i j : Fin n, i < j → recordBefore (f i).1 (f j).1) :
      ((List.finRange n).map f).Pairwise fun a b => recordBefore a.1 b.1 :=
    List.pairwise_map.2 ((List.pairwise_lt_finRange n).imp fun {i j} less => rises i j less)
  have nats (n : Nat) (f : Nat → (Nat × Nat) × (Unit → Bool))
      (rises : ∀ i j : Nat, i < j → recordBefore (f i).1 (f j).1) :
      ((List.range n).map f).Pairwise fun a b => recordBefore a.1 b.1 :=
    List.pairwise_map.2 (List.pairwise_lt_range.imp fun {i j} less => rises i j less)
  simp only [recordChecks, List.pairwise_append, List.mem_append, List.mem_map, List.mem_singleton, List.mem_range]
  refine ⟨⟨⟨⟨⟨nats _ _ ?_, fins _ ?_, ?_⟩, nats _ _ ?_, ?_⟩, fins _ ?_, ?_⟩, fins _ ?_, ?_⟩, List.pairwise_singleton .., ?_⟩
  · intro i j less
    simp only [recordBefore]
    omega
  · intro i j less
    simp only [recordBefore]
    omega
  · rintro _ ⟨n, small, rfl⟩ _ ⟨m, -, rfl⟩
    exact .inl (by dsimp only; omega)
  · intro i j less
    simp only [recordBefore]
    omega
  · rintro _ (⟨n, small, rfl⟩ | ⟨n, -, rfl⟩) _ ⟨m, -, rfl⟩ <;> exact .inl (by dsimp only; omega)
  · exact fun i j less => .inr ⟨rfl, less⟩
  · rintro _ ((⟨n, small, rfl⟩ | ⟨n, -, rfl⟩) | ⟨n, small, rfl⟩) _ ⟨m, -, rfl⟩ <;> exact .inl (by dsimp only; omega)
  · exact fun i j less => .inr ⟨rfl, Nat.add_lt_add_left less 4⟩
  · rintro _ (((⟨n, small, rfl⟩ | ⟨n, -, rfl⟩) | ⟨n, small, rfl⟩) | ⟨n, -, rfl⟩) _ ⟨m, -, rfl⟩
    · exact .inl (by dsimp only; omega)
    · exact .inl (by dsimp only; omega)
    · exact .inl (by dsimp only; omega)
    · exact .inr ⟨rfl, Nat.lt_add_right m.val n.isLt⟩
  · rintro _ ((((⟨n, small, rfl⟩ | ⟨n, -, rfl⟩) | ⟨n, small, rfl⟩) | ⟨n, -, rfl⟩) | ⟨n, -, rfl⟩) _ rfl <;>
      exact .inl (by dsimp only; omega)

/-! ### The checks of each kind of record -/

theorem fitsFormat_iff (f : FrameFormat) (n : Nat) :
    fitsFormat f n = true ↔ n < (if f = .base then 2 ^ 11 else 2 ^ 29) := by
  cases f <;> simp [fitsFormat]

theorem yesNo_iff (n : Nat) : yesNo n = true ↔ n = 0 ∨ n = 1 := by
  simp [yesNo]

theorem temperatureOk_iff (t : Int) : temperatureOk t = true ↔ -400 ≤ t ∧ t ≤ 1500 := by
  simp [temperatureOk]

theorem u8_lt (img : Bank) (a : Nat) : u8 img a < 256 := (readByte img a).isLt

/-- A field's bytes within the rule's least length, by bits (R30). -/
theorem ceilDiv_le_iff (bits len : Nat) : ceilDiv bits 8 ≤ len ↔ bits ≤ 8 * len := by
  unfold ceilDiv
  omega

theorem rule_ok_iff (img : Bank) (n : Nat) :
    let r := ruleAt img n
    let fits := fun (f : FrameFormat) (n : Nat) => n < (if f = .base then 2 ^ 11 else 2 ^ 29)
    r.ok = true ↔ (r.enabled = true → r.minLen ≤ 8 ∧ fits r.format r.ident ∧ fits r.format r.mask ∧
      (r.veto = false → 1 ≤ r.width ∧ r.width ≤ 16 ∧ r.start ≤ 63 ∧ r.start + r.width ≤ 8 * r.minLen ∧
        (r.big = true → r.start % 8 = 0 ∧ (r.width = 8 ∨ r.width = 16)))) := by
  intro r fits
  have start : r.start ≤ 63 := Nat.le_of_lt_succ (bits_lt ..)
  clear_value r
  have field : r.fieldOk = true ↔ 1 ≤ r.width ∧ r.width ≤ 16 ∧ r.start ≤ 63 ∧ r.start + r.width ≤ 8 * r.minLen ∧
      (r.big = true → r.start % 8 = 0 ∧ (r.width = 8 ∨ r.width = 16)) := by
    simp only [Rule.fieldOk, Bool.and_eq_true, decide_eq_true_iff, ceilDiv_le_iff, Bool.or_eq_true, Bool.not_eq_true',
      beq_iff_eq, start, true_and, and_assoc, ← Bool.not_eq_true, ← Decidable.imp_iff_not_or]
  simp only [Rule.ok, Bool.or_eq_true, Bool.and_eq_true, Bool.not_eq_true', decide_eq_true_iff, fitsFormat_iff, field,
    ← Bool.not_eq_true, and_assoc, fits]
  by_cases enabled : r.enabled = true <;> by_cases veto : r.veto = true <;> simp [enabled, veto]

theorem slot_ok_iff (img : Bank) (n : Fin 32) :
    let d := slotDef img n
    let full := slotRange n.val
    let range := fun (x lo hi : Int) => lo ≤ x ∧ x ≤ hi
    slotRecordOk img n = true ↔ ((readByte img (128 * 12 + 16 * n.val)).toNat = 0 ∨
        (readByte img (128 * 12 + 16 * n.val)).toNat = 1) ∧ range d.lo full.1 full.2 ∧ range d.hi full.1 full.2 ∧
      range d.default d.lo d.hi ∧ 1 ≤ d.maxAge ∧ d.maxAge ≤ 255 := by
  intro d full range
  have age : d.maxAge ≤ 255 := Nat.le_of_lt_succ (u8_lt ..)
  have code : u8 img (slotDefAddress n.val) = (readByte img (128 * 12 + 16 * n.val)).toNat := rfl
  simp only [slotRecordOk, Bool.and_eq_true, decide_eq_true_iff, yesNo_iff, code, range]
  change (((((((_ ∨ _) ∧ full.1 ≤ d.lo) ∧ d.hi ≤ full.2) ∧ d.lo ≤ d.hi) ∧ d.lo ≤ d.default) ∧ d.default ≤ d.hi) ∧
    1 ≤ d.maxAge) ↔ _
  omega

theorem binding_ok_iff (img : Bank) (n : Nat) :
    let serial := fun n : Nat => u32 img (128 * 16 + 8 * n)
    let flags := fun n : Nat => (readByte img (128 * 16 + 8 * n + 4)).toNat
    let travel := u16 img (128 * 16 + 8 * n + 6)
    bindingRecordOk img n = true ↔ (serial n ≠ 0 →
      serial n ≠ 2 ^ 32 - 1 ∧ flags n % 16 ≤ 3 ∧ (flags n / 16 = 0 ∨ flags n / 16 = 1) ∧ 5 ≤ travel ∧ travel ≤ 600 ∧
        (readByte img (128 * 16 + 8 * n + 5)).toNat ≤ 100 ∧
        (n < 20 → ∀ m, m < n → ¬(serial m = serial n ∧ flags m % 16 = flags n % 16))) := by
  intro serial flags travel
  have channel (m : Nat) : recordChannel img m = flags m % 16 :=
    (congrArg (· % 2 ^ 4) (Nat.div_one (flags m)) :)
  have sense : bits (u8 img (bindingAddress n + 4)) 4 4 = flags n / 16 :=
    Nat.mod_eq_of_lt (Nat.div_lt_of_lt_mul (u8_lt img _))
  have named (m : Nat) : recordSerial img m = serial m := rfl
  have way : u16 img (bindingAddress n + 6) = travel := rfl
  have band : u8 img (bindingAddress n + 5) = (readByte img (128 * 16 + 8 * n + 5)).toNat := rfl
  have again : (20 ≤ n ∨ repeated img n = false) ↔
      (n < 20 → ∀ m, m < n → ¬(serial m = serial n ∧ flags m % 16 = flags n % 16)) := by
    rw [← Nat.not_lt, ← Decidable.imp_iff_not_or, ← Bool.not_eq_true]
    refine imp_congr_right fun _ => ?_
    simp [repeated, channel, named]
  simp only [bindingRecordOk, channel, named, way, sense, band, Bool.or_eq_true, Bool.and_eq_true, beq_iff_eq, bne_iff_ne,
    decide_eq_true_iff, yesNo_iff, Bool.not_eq_true', again]
  rw [Decidable.or_iff_not_imp_left]
  refine imp_congr_right fun _ => ?_
  have ones : (2 ^ 32 - 1 : Nat) = 4294967295 := rfl
  rw [ones]
  constructor
  · rintro ⟨⟨⟨⟨⟨⟨given, few⟩, low⟩, high⟩, small⟩, way⟩, alone⟩
    exact ⟨given, few, way, low, high, small, alone⟩
  · rintro ⟨given, few, way, low, high, small, alone⟩
    exact ⟨⟨⟨⟨⟨⟨given, few⟩, low⟩, high⟩, small⟩, way⟩, alone⟩

theorem profile_ok_iff (img : Bank) (z : Fin 4) :
    let p := profile img z
    let range := fun (x lo hi : Int) => lo ≤ x ∧ x ≤ hi
    profileOk img z = true ↔ ((readByte img (128 * 18 + 24 * z.val)).toNat = 0 ∨
        (readByte img (128 * 18 + 24 * z.val)).toNat = 1) ∧ range p.sLo (-400) 1500 ∧ range p.sHi (-400) 1500 ∧
      range p.setpoint p.sLo p.sHi ∧ p.wmin ≤ p.wmax ∧ p.wmax ≤ 1000 ∧ p.ilim ≤ 8000 := by
  intro p range
  have code : u8 img (profileAddress z.val) = (readByte img (128 * 18 + 24 * z.val)).toNat := rfl
  simp only [profileOk, Bool.and_eq_true, decide_eq_true_iff, yesNo_iff, temperatureOk_iff, code, range, and_assoc]
  rfl

theorem wake_ok_iff (img : Bank) (k : Fin 4) :
    let w := wakePattern img k
    let fits := fun (f : FrameFormat) (n : Nat) => n < (if f = .base then 2 ^ 11 else 2 ^ 29)
    wakeOk img k = true ↔ (w.enabled = true → fits w.format w.ident ∧ fits w.format w.mask) := by
  intro w fits
  simp only [wakeOk, Bool.or_eq_true, Bool.and_eq_true, Bool.not_eq_true', fitsFormat_iff, ← Bool.not_eq_true,
    ← Decidable.imp_iff_not_or]
  rfl

theorem air_ok_iff (img : Bank) :
    let range := fun (x lo hi : Int) => lo ≤ x ∧ x ≤ hi
    airFieldsOk img = true ↔
      (∀ k : Fin 4, hazeWeight img k ≤ 512) ∧
      (∀ n ∈ [shieldOn img, closeOn img, closeOff img, clearBelow img, freshNominal img, freshMin img,
        shieldFraction img, boostLevel img, shieldFloorMin img, shieldStep img, ingressLimit img], n ≤ 1000) ∧
      1 ≤ purgeTime img ∧ 1 ≤ purgeLimitTime img ∧ range (coldLimit img) (-400) 1500 ∧
      range (hotLimit img) (-400) 1500 ∧ range (pressureTarget img) (-500) 500 ∧ pressureBand img ≤ 1000 ∧
      clearBelow img < shieldOn img ∧ shieldOn img ≤ closeOn img ∧ closeOff img < closeOn img ∧
      freshMin img ≤ freshNominal img ∧ coldLimit img ≤ hotLimit img ∧ purgeTime img ≤ purgeLimitTime img ∧
      pressureTarget img + pressureBand img ≤ 500 := by
  intro range
  simp only [airFieldsOk, permilles, allHeads, List.all_eq_true, List.mem_finRange, true_imp_iff, Bool.and_eq_true,
    decide_eq_true_iff, temperatureOk_iff, range, and_assoc]

theorem planner_ok_iff (img : Bank) :
    let range := fun (x lo hi : Int) => lo ≤ x ∧ x ≤ hi
    plannerFieldsOk img = true ↔
      range (planPeriod img) 100 2000 ∧ range (coolantMin img) (-400) 1500 ∧ coreDrop img ≤ 500 ∧
      range (stageRise img) 1 200 ∧ range (spanMin img) 1 500 ∧ range (defrostAuto img) (-400) 1500 := by
  intro range
  simp only [plannerFieldsOk, Bool.and_eq_true, decide_eq_true_iff, temperatureOk_iff, range]
  omega

theorem budget_ok_iff (img : Bank) : budgetFieldsOk img = true ↔
    baseBudget img ≤ 2000 ∧ bandHi img ≤ 400 ∧ bandMid img ≤ 400 ∧ bandLo img ≤ 400 ∧ bandLo img ≤ bandMid img ∧
    bandMid img ≤ bandHi img ∧ (∀ z : Fin 4, blowerRated img z ≤ 2000) ∧ stageCurrent img ≤ 2000 ∧
    motionCurrent img ≤ 2000 := by
  simp only [budgetFieldsOk, allZones, List.all_eq_true, List.mem_finRange, true_imp_iff, Bool.and_eq_true,
    decide_eq_true_iff, and_assoc]

theorem timing_ok_iff (img : Bank) :
    let range := fun (x lo hi : Int) => lo ≤ x ∧ x ≤ hi
    timingFieldsOk img = true ↔
      range (pollInterval img) 10 1000 ∧ range (statusPeriod img) 100 10000 ∧ range (watchDelay img) 1000 600000 := by
  intro range
  simp only [timingFieldsOk, Bool.and_eq_true, decide_eq_true_iff, range]
  omega

/-! ### The records at a page and record -/

/-- The records at a page and record pass (R164). -/
def recordPasses (img : Bank) (k : Nat × Nat) : Prop := ∀ c ∈ recordChecks img, c.1 = k → c.2 () = true

theorem recordPasses_iff (img : Bank) (page record : Nat) : recordPasses img (page, record) ↔
    (page < 12 → record < 8 → (ruleAt img (8 * page + record)).ok = true) ∧
    (∀ n : Fin 32, page = 12 + n.val / 8 → record = n.val % 8 → slotRecordOk img n = true) ∧
    (page = 16 → record < 16 → bindingRecordOk img record = true) ∧
    (page = 17 → record < 8 → bindingRecordOk img (16 + record) = true) ∧
    (∀ z : Fin 4, page = 18 → record = z.val → profileOk img z = true) ∧
    (∀ k : Fin 4, page = 18 → record = 4 + k.val → wakeOk img k = true) ∧
    (page = 19 → record = 0 → parametersOk img = true) := by
  have rules : (∀ n, n < 96 → page = n / 8 → record = n % 8 → (ruleAt img n).ok = true) ↔
      (page < 12 → record < 8 → (ruleAt img (8 * page + record)).ok = true) := by
    refine ⟨fun h low small => h _ (by omega) (by omega) (by omega), ?_⟩
    rintro h n small rfl rfl
    have whole : 8 * (n / 8) + n % 8 = n := Nat.div_add_mod n 8
    exact whole ▸ h (by omega) (by omega)
  have bindings : (∀ n, n < 24 → page = 16 + n / 16 → record = n % 16 → bindingRecordOk img n = true) ↔
      (page = 16 → record < 16 → bindingRecordOk img record = true) ∧
      (page = 17 → record < 8 → bindingRecordOk img (16 + record) = true) := by
    refine ⟨fun h => ⟨fun here small => h _ (by omega) (by omega) (by omega),
      fun here small => h _ (by omega) (by omega) (by omega)⟩, ?_⟩
    rintro ⟨low, high⟩ n small rfl rfl
    by_cases first : n < 16
    · have whole : n % 16 = n := Nat.mod_eq_of_lt first
      exact whole ▸ low (by omega) (by omega)
    · have whole : 16 + n % 16 = n := by omega
      exact whole ▸ high (by omega) (by omega)
  simp only [recordPasses, recordChecks, List.forall_mem_append, List.forall_mem_map, List.mem_range, allSlots, allZones,
    List.mem_finRange, true_imp_iff, List.forall_mem_singleton, Prod.mk.injEq, and_imp, eq_comm (b := page),
    eq_comm (b := record), rules, bindings, and_assoc]

/-- The first record that fails is the one that fails where all before it pass. -/
theorem firstInvalid_iff (img : Bank) (k : Nat × Nat) : firstInvalid img = some k ↔
    ¬recordPasses img k ∧ ∀ j, recordBefore j k → recordPasses img j := by
  have fails : (∃ c ∈ recordChecks img, c.1 = k ∧ c.2 () = false) ↔ ¬recordPasses img k := by
    simp [recordPasses]
  rw [firstInvalid, find_first_failing (recordChecks_sorted img), fails]
  refine and_congr_right fun _ => ⟨fun h j before c member here => h c member (here ▸ before), fun h c member before =>
    h c.1 before c member rfl⟩

theorem firstInvalid_none_iff (img : Bank) : firstInvalid img = none ↔ ∀ k, recordPasses img k := by
  rw [firstInvalid, find_none_failing]
  exact ⟨fun h k c member _ => h c member, fun h c member => h c.1 c member rfl⟩

/-- Settles O46. -/
theorem validationFindsTheFirstFailingRecord : Obligations.ValidationFindsTheFirstFailingRecord := by
  intro img yesNo range permille fits rule slot serial flags bound zone wake air planner budget timing passes
  have parameters : parametersOk img = true ↔ air ∧ planner ∧ budget ∧ timing := by
    rw [parametersOk, Bool.and_eq_true, Bool.and_eq_true, Bool.and_eq_true, and_assoc, and_assoc]
    exact and_congr (air_ok_iff img) (and_congr (planner_ok_iff img) (and_congr (budget_ok_iff img) (timing_ok_iff img)))
  have record_iff (page record : Nat) : recordPasses img (page, record) ↔ passes page record := by
    rw [recordPasses_iff]
    refine and_congr (imp_congr_right fun _ => imp_congr_right fun _ => rule_ok_iff img _) (and_congr
      (forall_congr' fun n => imp_congr_right fun _ => imp_congr_right fun _ => slot_ok_iff img n) (and_congr
      (imp_congr_right fun _ => imp_congr_right fun _ => binding_ok_iff img _) (and_congr
      (imp_congr_right fun _ => imp_congr_right fun _ => binding_ok_iff img _) (and_congr
      (forall_congr' fun z => imp_congr_right fun _ => imp_congr_right fun _ => profile_ok_iff img z) (and_congr
      (forall_congr' fun k => imp_congr_right fun _ => imp_congr_right fun _ => wake_ok_iff img k)
      (imp_congr_right fun _ => imp_congr_right fun _ => parameters))))))
  refine ⟨?_, fun page record => ?_⟩
  · rw [firstInvalid_none_iff, Prod.forall]
    exact forall_congr' fun page => forall_congr' fun record => record_iff page record
  · rw [firstInvalid_iff, record_iff, Prod.forall]
    exact and_congr_right fun _ => forall_congr' fun p => forall_congr' fun n =>
      imp_congr_right fun _ => record_iff p n

end Sys2Proof.Machine


/-! The plan pass (R73 to R81, R85, R86, R88, R90, R92). -/

namespace Sys2Proof.Machine

/-! ### The zones of a pass (R82 to R89) -/

/-- The computation of a planned zone from the snapshot, and its raw demand. -/
def snapshotZone (img : Bank) (s : Live) (c : PassContext) (z : Fin 4) : Zone × Int :=
  planZone c (profile img z) z (seen img s (cabTempSlot z)) (seen img s (setpointSlot z)) (seen img s (fanSlot z))
    (s.planner.zones.get z)

/-- The record that a pass gives a zone. -/
def passZone (img : Bank) (s : Live) (c : PassContext) (z : Fin 4) : Zone :=
  if zonePlanned img s c.defrost z then (snapshotZone img s c z).1 else unplannedZone (s.planner.zones.get z)

theorem planZones_eq (img : Bank) (s : Live) (c : PassContext) : ∀ (zs : List (Fin 4)) (l : Live),
    planZones img s c zs l = (zs.foldl (fun l z => putZone z (passZone img s c z) l) l,
      (zs.filter (zonePlanned img s c.defrost)).map fun z => (snapshotZone img s c z).2)
  | [], _ => rfl
  | z :: rest, l => by
    rw [planZones, List.foldl_cons]
    cases planned : zonePlanned img s c.defrost z
    · rw [if_neg Bool.false_ne_true, planZones_eq img s c rest, List.filter_cons_of_neg (by simp [planned]), passZone,
        planned]
      rfl
    · rw [if_pos rfl]
      dsimp only
      rw [planZones_eq img s c rest, List.filter_cons_of_pos (by simp [planned]), List.map_cons, passZone, planned]
      rfl

/-- A zone's record replaced, and SPAN_LOW latched where the flag rose. -/
def replaceZone (new : Fin 4 → Zone) (rose : Fin 4 → Bool) (l : Live) (z : Fin 4) : Live :=
  let l := { l with planner := { l.planner with zones := updateAt l.planner.zones z fun _ => new z } }
  if rose z then latch kSpanLow z.val l else l

theorem replaceZone_planner (new : Fin 4 → Zone) (rose : Fin 4 → Bool) (l : Live) (z : Fin 4) :
    (replaceZone new rose l z).planner =
      { l.planner with zones := updateAt l.planner.zones z fun _ => new z } := by
  unfold replaceZone
  dsimp only
  split
  · rw [outer_planner (outer_latch ..)]
  · rfl

/-- Whether a zone's flag rises does not depend on the zones before it. -/
theorem foldl_putZone (new old : Fin 4 → Zone) : ∀ (zs : List (Fin 4)), zs.Nodup → ∀ l : Live,
    (∀ z ∈ zs, l.planner.zones.get z = old z) → zs.foldl (fun l z => putZone z (new z) l) l =
      zs.foldl (replaceZone new fun z => (new z).spanLow && !(old z).spanLow) l
  | [], _, _, _ => rfl
  | z :: rest, distinct, l, same => by
    obtain ⟨apart, distinct⟩ := List.nodup_cons.1 distinct
    have first : putZone z (new z) l = replaceZone new (fun z => (new z).spanLow && !(old z).spanLow) l z := by
      simp only [replaceZone, ← same z List.mem_cons_self]
      rfl
    rw [List.foldl_cons, List.foldl_cons, first]
    refine foldl_putZone new old rest distinct _ fun y member => ?_
    rw [replaceZone_planner, updateAt_other _ z y _ fun here => apart (here ▸ member)]
    exact same y (List.mem_cons_of_mem z member)

section Replaced

variable (new : Fin 4 → Zone) (rose : Fin 4 → Bool)

theorem foldl_replaceZone_planner {zs : List (Fin 4)} (distinct : zs.Nodup) (l : Live) :
    (zs.foldl (replaceZone new rose) l).planner = { l.planner with
      zones := Vector.ofFn fun z => if zs.contains z then new z else l.planner.zones.get z } := by
  rw [← foldl_updateAt (fun z _ => new z) zs distinct]
  induction zs generalizing l with
  | nil => rfl
  | cons z rest ih => rw [List.foldl_cons, ih (List.nodup_cons.1 distinct).2, replaceZone_planner, List.foldl_cons]

/-- What neither a zone's record nor a latch touches stands after the zones of a pass. -/
theorem foldl_replaceZone_keeps {α : Type} (f : Live → α) (ofZones : ∀ v (l : Live),
      f { l with planner := { l.planner with zones := v } } = f l) (ofLatch : ∀ k n (l : Live), f (latch k n l) = f l)
    (zs : List (Fin 4)) (l : Live) : f (zs.foldl (replaceZone new rose) l) = f l := by
  induction zs generalizing l with
  | nil => rfl
  | cons z rest ih =>
    rw [List.foldl_cons, ih]
    unfold replaceZone
    dsimp only
    split
    · rw [ofLatch, ofZones]
    · exact ofZones _ l

/-- Where no flag rises only the records change. -/
theorem foldl_replaceZone_quiet {zs : List (Fin 4)} (quiet : ∀ z ∈ zs, rose z = false) (distinct : zs.Nodup) (l : Live) :
    zs.foldl (replaceZone new rose) l = { l with planner := { l.planner with
      zones := Vector.ofFn fun z => if zs.contains z then new z else l.planner.zones.get z } } := by
  rw [← foldl_updateAt (fun z _ => new z) zs distinct]
  induction zs generalizing l with
  | nil => rfl
  | cons z rest ih =>
    have first : replaceZone new rose l z =
        { l with planner := { l.planner with zones := updateAt l.planner.zones z fun _ => new z } } :=
      if_neg (by simp [quiet z List.mem_cons_self])
    rw [List.foldl_cons, first, ih (fun y member => quiet y (List.mem_cons_of_mem z member)) (List.nodup_cons.1 distinct).2]
    rfl

end Replaced

/-! ### The latches of SPAN_LOW (R86, R174) -/

theorem foldl_set_last {n : Nat} {α β : Type} (k : Fin n) (p : β → Bool) (g : β → α) (xs : List β) (v : Vector α n) :
    xs.foldl (fun v x => if p x then v.set k (g x) else v) v =
      match (xs.filter p).getLast? with
      | some x => v.set k (g x)
      | none => v := by
  induction xs generalizing v with
  | nil => rfl
  | cons x rest ih =>
    rw [List.foldl_cons, ih]
    cases taken : p x
    · rw [List.filter_cons_of_neg (by simp [taken])]
      rfl
    · rw [List.filter_cons_of_pos taken, List.getLast?_cons]
      cases (rest.filter p).getLast? <;> simp

theorem foldl_replaceZone_latched (new : Fin 4 → Zone) (rose : Fin 4 → Bool) (zs : List (Fin 4)) (l : Live) :
    (zs.foldl (replaceZone new rose) l).events.latched =
      zs.foldl (fun v z => if rose z then v.set kSpanLow (some z.val) else v) l.events.latched := by
  induction zs generalizing l with
  | nil => rfl
  | cons z rest ih =>
    rw [List.foldl_cons, ih, List.foldl_cons]
    congr 1
    unfold replaceZone
    dsimp only
    split
    · exact latch_latched ..
    · rfl

/-- Once SPAN_LOW is latched no further rise asks for a STATUS_E. -/
theorem foldl_replaceZone_latchedOnce (new : Fin 4 → Zone) (rose : Fin 4 → Bool) (zs : List (Fin 4)) (l : Live)
    (latched : l.events.latched.get kSpanLow ≠ none) :
    (zs.foldl (replaceZone new rose) l).port = l.port ∧
    (zs.foldl (replaceZone new rose) l).events.owed = l.events.owed ∧
    (zs.foldl (replaceZone new rose) l).events.spacingHold = l.events.spacingHold := by
  induction zs generalizing l with
  | nil => exact ⟨rfl, rfl, rfl⟩
  | cons z rest ih =>
    have step : (replaceZone new rose l z).events.latched.get kSpanLow ≠ none ∧ (replaceZone new rose l z).port = l.port ∧
        (replaceZone new rose l z).events.owed = l.events.owed ∧
        (replaceZone new rose l z).events.spacingHold = l.events.spacingHold := by
      unfold replaceZone
      dsimp only
      split
      · rw [latch_quiet z.val (.inl (by exact latched))]
        exact ⟨by simp, rfl, rfl, rfl⟩
      · exact ⟨latched, rfl, rfl, rfl⟩
    obtain ⟨latched, port, owed, hold⟩ := step
    obtain ⟨port', owed', hold'⟩ := ih _ latched
    exact ⟨port'.trans port, owed'.trans owed, hold'.trans hold⟩

/-! ### The computation of a pass (R74) -/

/-- A zone's SPAN_LOW flag goes from clear to set in a pass (R86). -/
def spanRises (img : Bank) (s : Live) (z : Fin 4) : Bool :=
  (passZone img s (passContext img s (defrostNow img s)) z).spanLow && !(s.planner.zones.get z).spanLow

/-- The snapshot with the pass's defrost state and the zones' new records, their rises latched. -/
def passZones (img : Bank) (s : Live) (zs : List (Fin 4)) : Live :=
  zs.foldl (replaceZone (passZone img s (passContext img s (defrostNow img s))) (spanRises img s))
    { s with planner := { s.planner with defrost := defrostNow img s } }

/-- Dmax of a pass (R90). -/
def snapshotDmax (img : Bank) (s : Live) : Int :=
  passDmax (passContext img s (defrostNow img s)) ((allZones.filter (zonePlanned img s (defrostNow img s))).map fun z =>
    (snapshotZone img s (passContext img s (defrostNow img s)) z).2)

theorem computePass_eq (img : Bank) (s : Live) : computePass img s =
    let l := passZones img s allZones
    { l with planner := { l.planner with
      previousDmax := some (snapshotDmax img s)
      stageTargets := stepStages (boundStages img) (requestedStages (stageRise img) (boundStages img).length
        (snapshotDmax img s - coreOrCold img s)) l.planner.stageTargets } } := by
  have zones := foldl_putZone (passZone img s (passContext img s (defrostNow img s))) s.planner.zones.get allZones
    (List.nodup_finRange 4) { s with planner := { s.planner with defrost := defrostNow img s } } fun _ _ => rfl
  unfold computePass
  simp only [planZones_eq, zones]
  rfl

theorem computePass_keeps {α : Type} (f : Live → α) (ofPlanner : ∀ p (l : Live), f { l with planner := p } = f l)
    (ofLatch : ∀ k n (l : Live), f (latch k n l) = f l) (img : Bank) (s : Live) : f (computePass img s) = f s := by
  rw [computePass_eq]
  dsimp only
  rw [ofPlanner, passZones, foldl_replaceZone_keeps _ _ f (fun _ _ => ofPlanner _ _) ofLatch, ofPlanner]

theorem computePass_planner (img : Bank) (s : Live) : (computePass img s).planner =
    { s.planner with
      defrost := defrostNow img s
      previousDmax := some (snapshotDmax img s)
      stageTargets := stepStages (boundStages img) (requestedStages (stageRise img) (boundStages img).length
        (snapshotDmax img s - coreOrCold img s)) s.planner.stageTargets
      zones := Vector.ofFn fun z => passZone img s (passContext img s (defrostNow img s)) z } := by
  rw [computePass_eq]
  dsimp only
  rw [passZones, foldl_replaceZone_planner (zs := allZones) _ _ (List.nodup_finRange 4)]
  simp [allZones]

theorem computePass_zone (img : Bank) (s : Live) (z : Fin 4) : (computePass img s).planner.zones.get z =
    passZone img s (passContext img s (defrostNow img s)) z := by
  rw [computePass_planner]
  simp

theorem computePass_events (img : Bank) (s : Live) :
    (computePass img s).events = (passZones img s allZones).events ∧
    (computePass img s).port = (passZones img s allZones).port := by
  rw [computePass_eq]
  exact ⟨rfl, rfl⟩

/-! ### Rises of SPAN_LOW (R86) -/

/-- The first rise finds the zones before it replaced, and itself. -/
theorem passZones_first {img : Bank} {s : Live} {z : Fin 4} (first : (allZones.filter (spanRises img s)).head? = some z) :
    ∃ rest : List (Fin 4), passZones img s allZones = rest.foldl
      (replaceZone (passZone img s (passContext img s (defrostNow img s))) (spanRises img s))
      (latch kSpanLow z.val { s with planner := { s.planner with
        defrost := defrostNow img s
        zones := Vector.ofFn fun y => if y ≤ z then passZone img s (passContext img s (defrostNow img s)) y
          else s.planner.zones.get y } }) := by
  rw [List.head?_filter, List.find?_eq_some_iff_append] at first
  obtain ⟨rises, before, behind, split, quiet⟩ := first
  have quiet : ∀ y ∈ before, spanRises img s y = false := fun y member => by simpa using quiet y member
  have order : (before ++ z :: behind).Pairwise (· < ·) := split ▸ List.pairwise_lt_finRange 4
  have distinct : before.Nodup := (List.pairwise_append.1 order).1.imp fun less => Fin.ne_of_lt less
  have lower (y : Fin 4) : y ∈ before ↔ y < z := by
    have listed : y ∈ before ++ z :: behind := split ▸ List.mem_finRange y
    obtain ⟨-, tail, cross⟩ := List.pairwise_append.1 order
    refine ⟨fun member => cross y member z List.mem_cons_self, fun less => ?_⟩
    rcases List.mem_append.1 listed with member | member
    · exact member
    · rcases List.mem_cons.1 member with rfl | later
      · exact absurd less (Nat.lt_irrefl _)
      · exact absurd less (Nat.lt_asymm ((List.pairwise_cons.1 tail).1 y later))
  refine ⟨behind, ?_⟩
  rw [passZones, split, List.foldl_append, List.foldl_cons, foldl_replaceZone_quiet _ _ quiet distinct]
  congr 1
  refine (if_pos rises).trans (congrArg (latch kSpanLow z.val) ?_)
  refine congrArg (fun v => ({ s with planner := { s.planner with defrost := defrostNow img s, zones := v } } : Live)) ?_
  refine Vector.ext fun i h => ?_
  by_cases here : z.val = i
  · subst here
    simp [updateAt]
  · have away : (⟨i, h⟩ : Fin 4) ≠ z := fun same => here (congrArg Fin.val same).symm
    have at' := updateAt_other (Vector.ofFn fun y => if before.contains y
      then passZone img s (passContext img s (defrostNow img s)) y else s.planner.zones.get y) z ⟨i, h⟩
      (fun _ => passZone img s (passContext img s (defrostNow img s)) z) away
    refine Eq.trans at' ?_
    have upTo : (⟨i, h⟩ : Fin 4) < z ↔ ⟨i, h⟩ ≤ z := by
      rw [Fin.lt_def, Fin.le_def]
      omega
    simp [lower, upTo]

end Sys2Proof.Machine


/-! The plan pass over its snapshot: temperatures, Dmax, the hand-on and the defrost report (R75, R77 to R81, R90, R92). -/

namespace Sys2Proof.Machine

/-! ### The shared temperatures (R77 to R81) -/

theorem filterMap_if {α β : Type} (p : α → Bool) (f : α → β) (xs : List α) :
    xs.filterMap (fun x => if p x then some (f x) else none) = (xs.filter p).map f := by
  induction xs with
  | nil => rfl
  | cons x rest ih => cases taken : p x <;> simp [taken, ih]

theorem cabReadings_eq (img : Bank) (s : Live) : cabReadings img s =
    (([0, 1, 2] : List (Fin 4)).filter fun z => (presented img s.slots (cabTempSlot z)).valid && (profile img z).enabled).map
      fun z => (presented img s.slots (cabTempSlot z)).value :=
  filterMap_if (fun z => (presented img s.slots (cabTempSlot z)).valid && (profile img z).enabled)
    (fun z => (presented img s.slots (cabTempSlot z)).value) _

theorem cabAverage_eq (img : Bank) (s : Live) : cabAverage img s =
    let counts := fun z : Fin 4 => (presented img s.slots (cabTempSlot z)).valid && (profile img z).enabled
    let cabs := ([0, 1, 2] : List (Fin 4)).filter counts
    let out := presented img s.slots outTempSlot
    if cabs = [] then (if out.valid then out.value else 200)
    else Int.tdiv (cabs.map fun z => (presented img s.slots (cabTempSlot z)).value).sum cabs.length := by
  unfold cabAverage
  simp only [cabReadings_eq, List.map_eq_nil_iff, List.length_map]
  rfl

/-- A quotient by 1000 rounded to the nearest, with halves away from zero. -/
theorem divAway_thousand (n : Int) : -1000 ≤ 2 * (n - 1000 * divAway n 1000) ∧
    2 * (n - 1000 * divAway n 1000) ≤ 1000 ∧ (2 * (n - 1000 * divAway n 1000) = 1000 → n < 0) ∧
    (2 * (n - 1000 * divAway n 1000) = -1000 → 0 < n) := by
  unfold divAway
  split <;> omega

theorem valveOpen_iff (img : Bank) (s : Live) : valveOpen img s = true ↔
    (presented img s.slots coolantSlot).valid = true ∧ coolantMin img ≤ (presented img s.slots coolantSlot).value ∧
      coldSide img s < s.planner.previousDmax.getD (coldSide img s) := by
  simp only [valveOpen, Bool.and_eq_true, decide_eq_true_iff, and_assoc]
  rfl

theorem coreOrCold_eq (img : Bank) (s : Live) : coreOrCold img s =
    max (if (presented img s.slots coolantSlot).valid = true ∧
        coolantMin img ≤ (presented img s.slots coolantSlot).value ∧
        coldSide img s < s.planner.previousDmax.getD (coldSide img s)
      then (presented img s.slots coolantSlot).value - coreDrop img else coldSide img s) (coldSide img s) :=
  congrArg (max · (coldSide img s)) (ite_of_iff (valveOpen_iff img s) rfl rfl)

/-! ### The defrost state and the planned zones (R75, R76) -/

theorem defrostNow_iff (img : Bank) (s : Live) : defrostNow img s = true ↔
    (presented img s.slots defrostSlot).isTrue = true ∨ ((s.air.mode = .shield ∨ s.air.mode = .closed) ∧
      (presented img s.slots outTempSlot).valid = true ∧ (presented img s.slots outTempSlot).value < defrostAuto img) := by
  simp only [defrostNow, Bool.or_eq_true, Bool.and_eq_true, isSealed_eq, decide_eq_true_iff, and_assoc]
  rfl

theorem bit_eq_testBit (n k : Nat) : bit n k = n.testBit k := by
  rw [bit, bits, Nat.testBit_eq_decide_div_mod_eq]
  exact Bool.beq_eq_decide_eq ..

theorem zonePlanned_iff (img : Bank) (s : Live) (defrost : Bool) (z : Fin 4) : zonePlanned img s defrost z = true ↔
    (profile img z).enabled = true ∧ ((presented img s.slots zoneOnSlot).valid = false ∨
      (presented img s.slots zoneOnSlot).value.toNat.testBit z.val = true ∨ (defrost = true ∧ z = 0)) := by
  simp only [zonePlanned, Bool.and_eq_true, Bool.or_eq_true, Bool.not_eq_true', bit_eq_testBit, beq_iff_eq, or_assoc]
  rfl

theorem passContext_eq (img : Bank) (s : Live) (defrost : Bool) : passContext img s defrost =
    { tc := coldSide img s, th := hotSide img s, spanMin := spanMin img, defrost := defrost, mode := s.air.mode,
      boosting := decide (s.air.boost ≠ .off), boostLevel := boostLevel img, shieldFloor := s.air.shieldFloor } := by
  have boosting : s.air.boosting = decide (s.air.boost ≠ .off) := by
    cases boost : s.air.boost <;> simp [Air.boosting, boost]
  rw [passContext, boosting]

/-! ### Dmax and the stage request (R90) -/

theorem greatestDemand_spec (tc : Int) : ∀ xs : List Int, xs ≠ [] →
    greatestDemand tc xs ∈ xs ∧ ∀ x ∈ xs, x ≤ greatestDemand tc xs
  | [x], _ => by simp [greatestDemand]
  | x :: y :: rest, _ => by
    obtain ⟨member, greatest⟩ := greatestDemand_spec tc (y :: rest) (by simp)
    have step : greatestDemand tc (x :: y :: rest) = max x (greatestDemand tc (y :: rest)) := rfl
    rw [step]
    constructor
    · rw [Int.max_def]
      split
      · exact List.mem_cons_of_mem x member
      · exact List.mem_cons_self
    · intro w listed
      rcases List.mem_cons.1 listed with rfl | later
      · exact Int.le_max_left ..
      · exact Int.le_trans (greatest w later) (Int.le_max_right ..)

/-- The least number of stages whose rises cover a shortfall. -/
theorem ceilDiv_covers {rise : Nat} {short : Int} (short_pos : 0 < short) (rise_pos : 1 ≤ rise) :
    short ≤ (ceilDiv short.toNat rise : Nat) * (rise : Int) ∧ ((ceilDiv short.toNat rise : Nat) - 1 : Int) * rise < short := by
  obtain ⟨n, rfl⟩ := Int.eq_ofNat_of_zero_le (Int.le_of_lt short_pos)
  have low := Nat.div_add_mod (n + rise - 1) rise
  have small := Nat.mod_lt (n + rise - 1) rise_pos
  rw [Int.toNat_natCast, ceilDiv]
  generalize (n + rise - 1) / rise = q at low
  generalize (n + rise - 1) % rise = r at low small
  have product : (q : Int) * rise = (rise * q : Nat) := by rw [Nat.mul_comm, Int.natCast_mul]
  rw [Int.sub_mul, Int.one_mul, product]
  omega

theorem boundStages_eq (img : Bank) : boundStages img =
    (List.finRange 4).filter fun n => decide ((binding img (stageRole n)).serial ≠ 0) :=
  List.filter_congr fun n _ => by simp [isBound, bne, Bool.beq_eq_decide_eq]

/-! ### The hand-on of the targets (R92) -/

/-- A target handed on by the planner: the role and its level. -/
def handOn (img : Bank) (l : Live) (x : Role × Nat) : Live := targetArrival img x.1 { level := x.2, urgent := false } l

/-- What is handed on of a zone. -/
def zoneTargets (p : Planner) (z : Fin 4) : List (Role × Nat) :=
  let zone := p.zones.get z
  if zone.planned then [(blendRole z, zone.blend), (outletRole z, zone.outlet), (blowerRole z, zone.level)]
  else [(blowerRole z, 0)]

theorem handZone_eq (img : Bank) (z : Fin 4) (l : Live) : handZone img z l = (zoneTargets l.planner z).foldl (handOn img) l := by
  unfold handZone zoneTargets
  dsimp only
  split <;> rfl

/-- Targets handed on in turn, each read from the planner, which no arrival changes. -/
theorem foldl_handOn {α : Type} {img : Bank} {f : Live → α → Live} {targets : Planner → α → List (Role × Nat)}
    (each : ∀ x l, f l x = (targets l.planner x).foldl (handOn img) l) (xs : List α) (l : Live) :
    xs.foldl f l = (xs.flatMap (targets l.planner)).foldl (handOn img) l := by
  have kept (ts : List (Role × Nat)) (m : Live) : (ts.foldl (handOn img) m).planner = m.planner :=
    outer_planner (outer_foldl _ (fun m x => outer_targetArrival ..) ts m)
  induction xs generalizing l with
  | nil => rfl
  | cons x rest ih => rw [List.foldl_cons, ih, each, kept, List.flatMap_cons, List.foldl_append]

theorem handTargets_eq (img : Bank) (valve : Bool) (l : Live) : handTargets img valve l =
    ([((3 : Role), if valve then 1000 else 0)] ++ allZones.flatMap (zoneTargets l.planner) ++
      (boundStages img).map fun n => (stageRole n, if l.planner.stageTargets.get n then 1000 else 0)).foldl (handOn img) l := by
  have planner (ts : List (Role × Nat)) (m : Live) : (ts.foldl (handOn img) m).planner = m.planner :=
    outer_planner (outer_foldl _ (fun m x => outer_targetArrival ..) ts m)
  have stages (m : Live) : (boundStages img).foldl (fun l n => handStage img n l) m =
      ((boundStages img).map fun n => (stageRole n, if m.planner.stageTargets.get n then 1000 else 0)).foldl
        (handOn img) m := by
    refine (foldl_handOn (f := fun l n => handStage img n l)
      (targets := fun p n => [(stageRole n, if p.stageTargets.get n then 1000 else 0)]) (fun _ _ => rfl) _ m).trans ?_
    rw [List.map_eq_flatMap]
  have valveKept : (targetArrival img valveRole { level := if valve then 1000 else 0, urgent := false } l).planner =
      l.planner := outer_planner (outer_targetArrival ..)
  unfold handTargets
  dsimp only
  rw [stages, foldl_handOn (fun z l => handZone_eq img z l), List.foldl_append, List.foldl_append, planner, valveKept]
  rfl

/-! ### The defrost report (R67, R75) -/

theorem defrostReport_eq (img : Bank) (active : Bool) (l : Live) :
    let shut := l.air.mode = .shield ∨ l.air.mode = .closed
    let told : Live := { l with air := { l.air with defrostCopy := active, defogLimited := active && decide shut } }
    defrostReport img active l = reworkFraction img (if active = true ∧ shut ∧ l.air.defogLimited = false
      then latch kDefogLimited l.air.mode.code told else told) := by
  intro shut told
  let noted := if active = true ∧ shut ∧ l.air.defogLimited = false then latch kDefogLimited l.air.mode.code told else told
  have rose : (told.air.defogLimited && !l.air.defogLimited) = true ↔
      active = true ∧ shut ∧ l.air.defogLimited = false := by
    simp [told, and_assoc]
  have ingress : noted.air.cabIngress = l.air.cabIngress := by
    simp only [noted]
    split
    · rw [latch_air]
    · rfl
  have brought : ({ l with air := { l.air with
      defrostCopy := active, defogLimited := active && l.air.mode.isSealed } } : Live) = told := by
    rw [isSealed_eq]
  have first : (if told.air.defogLimited && !l.air.defogLimited then latch kDefogLimited told.air.mode.code told else told) =
      noted := ite_of_iff rose rfl rfl
  refine congrArg (reworkFraction img) ?_
  refine (congrArg (latchRisen { l.air with defrostCopy := active } _) brought).trans ?_
  unfold latchRisen
  dsimp only
  rw [first, ingress]
  exact if_neg (by simp)

theorem reworkFraction_keeps (img : Bank) (l : Live) :
    (reworkFraction img l).planner = l.planner ∧ (reworkFraction img l).part = l.part ∧
      (reworkFraction img l).now = l.now := by
  rw [reworkFraction_eq]
  dsimp only
  split
  · exact ⟨(outer_planner (outer_issueTargets ..)).trans rfl, (outer_part (outer_issueTargets ..)).trans rfl, (outer_now (outer_issueTargets ..)).trans rfl⟩
  · exact ⟨rfl, rfl, rfl⟩

theorem defrostReport_keeps (img : Bank) (active : Bool) (l : Live) :
    (defrostReport img active l).planner = l.planner ∧ (defrostReport img active l).part = l.part ∧
      (defrostReport img active l).now = l.now := by
  have report := defrostReport_eq img active l
  dsimp only at report
  rw [report, (reworkFraction_keeps ..).1, (reworkFraction_keeps ..).2.1, (reworkFraction_keeps ..).2.2]
  split
  · exact ⟨(outer_planner (outer_latch ..)).trans rfl, (outer_part (outer_latch ..)).trans rfl, (outer_now (outer_latch ..)).trans rfl⟩
  · exact ⟨rfl, rfl, rfl⟩

/-! ### The events of a pass (R86) -/

theorem passZones_quiet {img : Bank} {s : Live} (quiet : ∀ z ∈ allZones, spanRises img s z = false) :
    (passZones img s allZones).events = s.events ∧ (passZones img s allZones).port = s.port := by
  rw [passZones, foldl_replaceZone_quiet _ _ quiet (List.nodup_finRange 4)]
  exact ⟨rfl, rfl⟩

/-- The first rise alone asks for a STATUS_E, from the state in which its zone has just been replaced. -/
theorem passZones_asks {img : Bank} {s : Live} {z : Fin 4} (first : (allZones.filter (spanRises img s)).head? = some z) :
    let noted := latch kSpanLow z.val { s with planner := { s.planner with
      defrost := (computePass img s).planner.defrost
      zones := Vector.ofFn fun y => if y ≤ z then (computePass img s).planner.zones.get y
        else s.planner.zones.get y } }
    (passZones img s allZones).port = noted.port ∧ (passZones img s allZones).events.owed = noted.events.owed ∧
      (passZones img s allZones).events.spacingHold = noted.events.spacingHold := by
  obtain ⟨rest, fold⟩ := passZones_first first
  have defrost : (computePass img s).planner.defrost = defrostNow img s := by rw [computePass_planner]
  simp only [computePass_zone, defrost]
  rw [fold]
  exact foldl_replaceZone_latchedOnce _ _ rest _ (by rw [latch_latched]; simp)

theorem latch_eq (k : Kind) (n : Nat) (l : Live) :
    let latched : Live := { l with events := { l.events with latched := l.events.latched.set k (some n) } }
    latch k n l = if l.events.latched.get k = none ∧ l.events.mask.getLsbD k.val = false then askStatusE latched
      else latched :=
  ite_of_iff (and_congr_left' Option.isNone_iff_eq_none) rfl rfl

/-! ### The whole pass -/

/-- The live part of a pass before the plan timer starts again: the targets handed on, and the defrost report where the
state changed. -/
def passReported (img : Bank) (s : Live) : Live :=
  let handed := handTargets img (valveOpen img s) (computePass img s)
  if (computePass img s).planner.defrost = s.planner.defrost then handed
  else defrostReport img (computePass img s).planner.defrost handed

theorem passReported_keeps (img : Bank) (s : Live) :
    (passReported img s).planner = (computePass img s).planner ∧ (passReported img s).part = s.part ∧
      (passReported img s).now = s.now := by
  have handed := outer_handTargets img (valveOpen img s) (computePass img s)
  have part : (computePass img s).part = s.part :=
    computePass_keeps Live.part (fun _ _ => rfl) (fun _ _ _ => outer_part (outer_latch ..)) img s
  have now : (computePass img s).now = s.now := core_now (core_computePass img s)
  unfold passReported
  dsimp only
  split
  · exact ⟨outer_planner handed, (outer_part handed).trans part, (outer_now handed).trans now⟩
  · obtain ⟨planner, part', now'⟩ := defrostReport_keeps img (computePass img s).planner.defrost
      (handTargets img (valveOpen img s) (computePass img s))
    exact ⟨planner.trans (outer_planner handed), part'.trans ((outer_part handed).trans part),
      now'.trans ((outer_now handed).trans now)⟩

theorem planPass_eq (img : Bank) (s : Live) : planPass img s = { passReported img s with
    planner := { (computePass img s).planner with timer := some (s.now + planPeriod img) } } := by
  obtain ⟨planner, -, now⟩ := passReported_keeps img s
  have handed : (handTargets img (valveOpen img s) (computePass img s)).planner = (computePass img s).planner :=
    outer_planner (outer_handTargets ..)
  have reported : planPass img s = { passReported img s with
      planner := { (passReported img s).planner with timer := some ((passReported img s).now + planPeriod img) } } := by
    unfold planPass passReported
    dsimp only
    rw [handed]
  rw [reported, planner, now]

theorem coldSide_le_hotSide (img : Bank) (s : Live) : coldSide img s ≤ hotSide img s := by
  have rises : (0 : Int) ≤ stageRise img * stagesOn s.budget := Int.mul_nonneg (Int.natCast_nonneg _) (Int.natCast_nonneg _)
  have core : coldSide img s ≤ coreOrCold img s := Int.le_max_right ..
  rw [hotSide]
  omega

theorem planZone_ranges {c : PassContext} (ordered : c.tc ≤ c.th) (pr : Profile) (z : Fin 4)
    (cab request fan : Presented) (old : Zone) :
    c.tc ≤ (planZone c pr z cab request fan old).1.demand ∧ (planZone c pr z cab request fan old).1.demand ≤ c.th ∧
      (planZone c pr z cab request fan old).1.level ≤ 1000 := by
  have level : (planZone c pr z cab request fan old).1.level ≤ 1000 := Nat.min_le_right ..
  unfold planZone at level ⊢
  dsimp only at level ⊢
  split
  · exact ⟨ordered, Int.le_refl _, level⟩
  · obtain ⟨low, high⟩ := clamp_range ordered
    exact ⟨low, high, level⟩

theorem snapshotDmax_calm {img : Bank} {s : Live} (calm : defrostNow img s = false) : snapshotDmax img s =
    greatestDemand (coldSide img s) ((allZones.filter (zonePlanned img s (defrostNow img s))).map fun z =>
      (snapshotZone img s (passContext img s (defrostNow img s)) z).2) :=
  if_neg (by rw [show (passContext img s (defrostNow img s)).defrost = defrostNow img s from rfl, calm]; simp)

/-- Settles O24. -/
theorem planPassComputesFromItsSnapshot : Obligations.PlanPassComputesFromItsSnapshot := by
  refine ⟨fun s e free due => ?pass, fun img s => ?temperatures, fun img s => ?computed, fun img s => ?rises,
    fun img s => ?handed, fun img active l => defrostReport_eq img active l, fun img l => reworkFraction_eq img l⟩
  case pass =>
    intro img l defrost
    refine ⟨{ s with live := planPass img l }, running_onExpiry free (timer := fun l => l.planner.timer) due rfl, rfl, ?_⟩
    obtain ⟨-, part, -⟩ := passReported_keeps img l
    refine ⟨by rw [planPass_eq], core_now (core_planPass img l), (core_slots (core_planPass img l) :),
      by rw [planPass_eq]; exact part, rfl, rfl, rfl, by rw [planPass_eq, computePass_planner], fun z => ?_⟩
    intro old new
    have record : new = passZone img l (passContext img l defrost) z := by
      refine Eq.trans ?_ (computePass_zone img l z)
      simp only [new, planPass_eq]
    rw [record, passZone]
    refine ⟨fun planned => ?_, fun unplanned => ?_⟩
    · rw [if_pos (by exact planned)]
      exact ⟨rfl, planZone_ranges (coldSide_le_hotSide img l) ..⟩
    · rw [if_neg (by rw [show (passContext img l defrost).defrost = defrost from rfl, unplanned]; exact Bool.false_ne_true)]
      rfl
  case temperatures =>
    intro seen out counts cabs cab outside fresh weighed mix cold coolant opened core stages
    have average : cabAverage img s = cab := cabAverage_eq img s
    have outer : outTemperature img s = outside := by
      rw [outTemperature, average]
      rfl
    have blend : mix = divAway weighed 1000 := by
      simp only [mix, mixTemperature, average, outer]
      rfl
    refine ⟨average, outer, blend ▸ divAway_thousand weighed, ?_, ?_, ?_⟩
    · exact ite_of_iff Iff.rfl rfl rfl
    · exact valveOpen_iff img s
    · have accepted : (stagesOn s.budget : Int) = stages := rfl
      rw [hotSide, coreOrCold_eq, accepted]
      rfl
  case computed =>
    intro seen defrost out shut on
    refine ⟨defrostNow_iff img s, fun z => zonePlanned_iff img s defrost z, ?_⟩
    intro c
    refine ⟨passContext_eq img s defrost, ?_⟩
    intro raw planned t stages
    refine ⟨core_slots (core_computePass img s), computePass_keeps Live.air (fun _ _ => rfl) latch_air img s,
      computePass_keeps Live.budget (fun _ _ => rfl) latch_budget img s,
      computePass_keeps Live.sequencer (fun _ _ => rfl) latch_sequencer img s, by simp only [t, computePass_planner]; rfl,
      snapshotDmax img s, by simp only [t, computePass_planner], fun active => ?_, fun calm empty => ?_,
      fun calm some => ?_, if 0 < snapshotDmax img s - coreOrCold img s
        then ceilDiv (snapshotDmax img s - coreOrCold img s).toNat (stageRise img) else 0, ?_⟩
    · exact if_pos (by exact active)
    · rw [snapshotDmax_calm calm, show allZones.filter (zonePlanned img s (defrostNow img s)) = [] from empty]
      rfl
    · rw [snapshotDmax_calm calm]
      obtain ⟨member, greatest⟩ := greatestDemand_spec (coldSide img s) (planned.map raw) (by simpa using some)
      obtain ⟨z, listed, same⟩ := List.mem_map.1 member
      exact ⟨⟨z, listed, same.symm⟩, fun z listed => greatest _ (List.mem_map_of_mem listed)⟩
    · intro short
      refine ⟨fun none => if_neg (Int.not_lt.2 none), fun more rise => ?_, fun rise => ?_⟩
      · rw [if_pos (by exact more)]
        exact ceilDiv_covers more rise
      · simp only [t, computePass_planner, boundStages_eq]
        rfl
  case rises =>
    intro t low rises e
    obtain ⟨events, port⟩ := computePass_events img s
    have rises_eq : rises = allZones.filter (spanRises img s) := by
      refine List.filter_congr fun z _ => ?_
      simp only [low, t, computePass_zone]
      rfl
    have latched : t.events.latched = _ := (congrArg Events.latched events).trans (foldl_replaceZone_latched ..)
    rw [foldl_set_last kSpanLow (spanRises img s) fun z => some z.val, ← rises_eq] at latched
    refine ⟨fun none => ?_, fun z last => ?_, ?_, ?_, fun z first => ?_⟩
    · have quiet : ∀ z ∈ allZones, spanRises img s z = false := by
        rw [rises_eq, List.filter_eq_nil_iff] at none
        simpa using none
      obtain ⟨events', port'⟩ := passZones_quiet quiet
      exact ⟨events.trans events', port.trans port'⟩
    · rw [latched, last]
    · exact core_mask (core_computePass img s)
    · exact computePass_keeps (fun l => l.events.statusTimer) (fun _ _ => rfl)
        (fun _ _ _ => outer_statusTimer (outer_latch ..)) img s
    · intro newly latched asked
      obtain ⟨port', owed, hold⟩ := passZones_asks (rises_eq ▸ first)
      rw [latch_eq] at port' owed hold
      exact ⟨port.trans port', (congrArg Events.owed events).trans owed, (congrArg Events.spacingHold events).trans hold⟩
  case handed =>
    intro t zone order handed reported
    have targets : handTargets img (valveOpen img s) t = handed := by
      rw [handTargets_eq, boundStages_eq]
      rfl
    have whole : passReported img s = reported := by
      unfold passReported
      dsimp only
      rw [targets]
    rw [planPass_eq, whole]
    exact ⟨rfl, rfl, rfl, rfl, rfl, rfl, rfl⟩

end Sys2Proof.Machine
